-- ==== Sys2Proof/Word.lean ====
section
/-!
DEFINITION. The word types of the block (00_scope.md R9): the byte `u8`, the bus address, the 32-bit command
word of 30_encoding.md R61 and the 2-bit value `u2`.
-/

namespace Sys2Proof

/-- `u8` (R9). -/
abbrev Byte := BitVec 8

/-- A 16-bit bus address (R41, R62). -/
abbrev Addr := BitVec 16

/-- The 32-bit command word (R61). -/
abbrev Cmd := BitVec 32

/-- `u2` (R9): a raw colour or a final shade. -/
abbrev Shade := BitVec 2

/-- `v[i]` of R9: bit 0 is the least significant. -/
def bit (v : Byte) (i : Fin 8) : Bool := v.getLsbD i.val

end Sys2Proof
end

