-- ==== Sys2Proof/Config.lean ====
section
/-!
DEFINITION. The parameters of 00_scope.md R8 as one record of plain data, its default (R8's default column), the
predicate that refuses a configuration the rules do not cover (93_implementation_defined.md U7), and the free values:
constants with no body that stand for every `draw` of the spec (R9).
-/

namespace Sys2Proof

/-- The eleven registers (10_state.md R11), in the order the document lists their addresses. -/
inductive RegName where
  | lcdc | stat | scy | scx | ly | lyc | bgp | obp0 | obp1 | wy | wx
  deriving DecidableEq, Repr

/-- `REG_ADDR` (R8, D2): the bus address of each register. -/
structure RegAddrs where
  lcdc : Addr
  stat : Addr
  scy : Addr
  scx : Addr
  ly : Addr
  lyc : Addr
  bgp : Addr
  obp0 : Addr
  obp1 : Addr
  wy : Addr
  wx : Addr
  deriving DecidableEq, Repr

/-- The address of a register by its name. -/
def RegAddrs.get (t : RegAddrs) : RegName → Addr
  | .lcdc => t.lcdc
  | .stat => t.stat
  | .scy => t.scy
  | .scx => t.scx
  | .ly => t.ly
  | .lyc => t.lyc
  | .bgp => t.bgp
  | .obp0 => t.obp0
  | .obp1 => t.obp1
  | .wy => t.wy
  | .wx => t.wx

/-- All eleven addresses, in the order of `RegName`. -/
def RegAddrs.toList (t : RegAddrs) : List Addr :=
  [t.lcdc, t.stat, t.scy, t.scx, t.ly, t.lyc, t.bgp, t.obp0, t.obp1, t.wy, t.wx]

/-- `OAM_SCAN_POLICY` (R8, R147, D13). -/
inductive ScanPolicy where
  | perLine
  | perFrame
  deriving DecidableEq, Repr

/-- A display colour (42_palette.md R114). -/
structure Rgb where
  r : Byte
  g : Byte
  b : Byte
  deriving DecidableEq, Repr

/-- The two display schemes of R114: scheme 0 and scheme 1. -/
inductive Scheme where
  | green
  | grayscale
  deriving DecidableEq, Repr

/-- `RGB_TABLE` (R8, R114): four entries for each scheme. -/
structure RgbTable where
  green : Vector Rgb 4
  grayscale : Vector Rgb 4
  deriving DecidableEq, Repr

/-- `RESET_STATE` (R8, D17): the register values RESET stores. LY, the mode and the window counter are not here:
RESET forces them to 0 (70_reset_and_hazards.md R260). -/
structure ResetState where
  lcdc : Byte
  scy : Byte
  scx : Byte
  lyc : Byte
  bgp : Byte
  obp0 : Byte
  obp1 : Byte
  wy : Byte
  wx : Byte
  ie : Byte
  deriving DecidableEq, Repr

/-- The register values of R260: all zero. -/
def ResetState.zero : ResetState :=
  { lcdc := 0, scy := 0, scx := 0, lyc := 0, bgp := 0, obp0 := 0, obp1 := 0, wy := 0, wx := 0, ie := 0 }

/-- The configuration record R8 asks a model to carry. Bit positions are `Fin 8`. -/
structure Config where
  regAddr : RegAddrs
  oamBase : Addr
  tileBaseUnsigned : Addr
  tileBaseSigned : Addr
  mapABase : Addr
  mapBBase : Addr
  lcdcLcdEn : Fin 8
  lcdcWinMap : Fin 8
  lcdcWinEn : Fin 8
  lcdcTileData : Fin 8
  lcdcBgMap : Fin 8
  lcdcObjSize : Fin 8
  lcdcBgEn : Fin 8
  objEnableBit : Option (Fin 8)
  statWmask : Byte
  lycIeBit : Fin 8
  oamfBgPrio : Fin 8
  oamfYFlip : Fin 8
  oamfXFlip : Fin 8
  oamfPalette : Fin 8
  lightest : Shade
  darkest : Shade
  rgbTable : RgbTable
  oamScanPolicy : ScanPolicy
  resetState : ResetState
  deriving DecidableEq, Repr

/-- The register addresses of R11. PRESUMED by the spec (general knowledge, D2). -/
def RegAddrs.default : RegAddrs :=
  { lcdc := 0xFF40, stat := 0xFF41, scy := 0xFF42, scx := 0xFF43, ly := 0xFF44, lyc := 0xFF45,
    bgp := 0xFF47, obp0 := 0xFF48, obp1 := 0xFF49, wy := 0xFF4A, wx := 0xFF4B }

/-- The display colours of R114. -/
def RgbTable.default : RgbTable :=
  { green := #v[⟨155, 188, 15⟩, ⟨139, 172, 15⟩, ⟨48, 98, 48⟩, ⟨15, 56, 15⟩]
    grayscale := #v[⟨255, 255, 255⟩, ⟨170, 170, 170⟩, ⟨85, 85, 85⟩, ⟨0, 0, 0⟩] }

/-- The default column of R8. -/
def Config.default : Config :=
  { regAddr := RegAddrs.default
    oamBase := 0xFE00
    tileBaseUnsigned := 0x8000
    tileBaseSigned := 0x9000
    mapABase := 0x9800
    mapBBase := 0x9C00
    lcdcLcdEn := 7
    lcdcWinMap := 6
    lcdcWinEn := 5
    lcdcTileData := 4
    lcdcBgMap := 3
    lcdcObjSize := 2
    lcdcBgEn := 0
    objEnableBit := none
    statWmask := 0x78
    lycIeBit := 6
    oamfBgPrio := 7
    oamfYFlip := 6
    oamfXFlip := 5
    oamfPalette := 4
    lightest := 0
    darkest := 3
    rgbTable := RgbTable.default
    oamScanPolicy := .perLine
    resetState := ResetState.zero }

/-! ## Which configurations the rules cover (U7) -/

/-- `a` is in the VRAM range, which the document fixes (R7, R41). -/
abbrev inVram (a : Addr) : Prop := 0x8000 ≤ a.toNat ∧ a.toNat ≤ 0x9FFF

/-- `a` is in the OAM range (R41). -/
abbrev inOam (c : Config) (a : Addr) : Prop := c.oamBase.toNat ≤ a.toNat ∧ a.toNat ≤ c.oamBase.toNat + 159

/-- The decode ranges of R41 are disjoint: VRAM, the 160 OAM addresses, eleven different register addresses.
DESIGN CHOICE (notes/assumptions/3.md): the first clause refuses an `OAM_BASE` above 0xFF60, whose last OAM addresses
would lie past 0xFFFF; neither R41 nor U7 names that case. -/
abbrev Config.decodeDisjoint (c : Config) : Prop :=
  c.oamBase.toNat + 159 ≤ 0xFFFF ∧
  (c.oamBase.toNat + 159 < 0x8000 ∨ 0x9FFF < c.oamBase.toNat) ∧
  c.regAddr.toList.Nodup ∧
  (c.regAddr.toList.all fun a => decide (¬ inVram a ∧ ¬ inOam c a)) = true

/-- The STAT constraints of R17. -/
abbrev Config.statOk (c : Config) : Prop :=
  c.statWmask &&& 0x07 = 0 ∧ bit c.statWmask c.lycIeBit = true

/-- Every pattern table and tile map lies inside VRAM (U7); the signed table spans 128 tiles on each side of its
base (R98). -/
abbrev Config.basesOk (c : Config) : Prop :=
  (0x8000 ≤ c.tileBaseUnsigned.toNat ∧ c.tileBaseUnsigned.toNat + 4096 ≤ 0xA000) ∧
  (0x8800 ≤ c.tileBaseSigned.toNat ∧ c.tileBaseSigned.toNat + 2048 ≤ 0xA000) ∧
  (0x8000 ≤ c.mapABase.toNat ∧ c.mapABase.toNat + 1024 ≤ 0xA000) ∧
  (0x8000 ≤ c.mapBBase.toNat ∧ c.mapBBase.toNat + 1024 ≤ 0xA000)

/-- RESET leaves the LCD off and no enable bit outside the mask (R29, R260): the quiescent state D17 chooses. -/
abbrev Config.resetOk (c : Config) : Prop :=
  bit c.resetState.lcdc c.lcdcLcdEn = false ∧ c.resetState.ie &&& ~~~c.statWmask = 0

/-- `LIGHTEST` and `DARKEST` have the values D10 fixes: R8 lists them as parameters, but D10 does not leave them open and
R114 calls index 3 the darkest and index 0 the lightest. DEDUCED (notes/assumptions/18.md): other values are refused. -/
abbrev Config.colorsOk (c : Config) : Prop := c.lightest = 0 ∧ c.darkest = 3

/-- The configurations the rules cover: those U7 does not refuse, within the model's own narrowings
(notes/assumptions 3, 18 and 19). -/
abbrev Config.wf (c : Config) : Prop := c.decodeDisjoint ∧ c.statOk ∧ c.basesOk ∧ c.resetOk ∧ c.colorsOk

/-! ## Free values (`draw` of R9): no body, so nothing can be proved about them -/

/-- Which contents a free byte stands for (R260). -/
inductive FreeSite where
  | vram
  | oam
  | spr
  deriving DecidableEq, Repr

/-- `draw` of R260 for the bytes behind `vram`, `oam` and `spr` after the `epoch`-th RESET. -/
opaque Config.freeByte (site : FreeSite) (epoch i : Nat) : Byte

/-- `draw` of R260 for pixel (`x`, `y`) of `fb` after the `epoch`-th RESET. -/
opaque Config.freeShade (epoch y x : Nat) : Shade

/-- The `n`-th `draw(bit)` of 46_register_bank.md R171. -/
opaque Config.freeIrq (n : Nat) : Bool

end Sys2Proof
end

