-- ==== Sys2Proof/Syntax.lean ====
section
/-!
DEFINITION. The operations of 30_encoding.md R60 and R63: one constructor per mnemonic of spec/opcode_table.json
(RD.OAM and WR.OAM each have two table rows, two patterns of one address range). Also the target a bus address
selects (20_memory.md R41), the reasons a command word is reserved (R65), and the pseudo-operations of R67.
-/

namespace Sys2Proof

/-- One operation of the block (R60, R63), with its operands (R62). -/
inductive Instr where
  | rdVram (addr : Addr)
  | wrVram (addr : Addr) (data : Byte)
  | rdOam (addr : Addr)
  | wrOam (addr : Addr) (data : Byte)
  | rdLcdc
  | wrLcdc (data : Byte)
  | rdStat
  | wrStat (data : Byte)
  | rdScy
  | wrScy (data : Byte)
  | rdScx
  | wrScx (data : Byte)
  | rdLy
  | wrLy (data : Byte)
  | rdLyc
  | wrLyc (data : Byte)
  | rdBgp
  | wrBgp (data : Byte)
  | rdObp0
  | wrObp0 (data : Byte)
  | rdObp1
  | wrObp1 (data : Byte)
  | rdWy
  | wrWy (data : Byte)
  | rdWx
  | wrWx (data : Byte)
  | modeDone
  | getPixel (x y : Byte)
  | snapshot
  | reset
  | rdUnmapped (addr : Addr)
  | wrUnmapped (addr : Addr) (data : Byte)
  deriving DecidableEq, Repr

/-- What a bus address selects (R41). -/
inductive BusTarget where
  | vram
  | oam
  | reg (r : RegName)
  | unmapped
  deriving DecidableEq, Repr

/-- Why a command word is reserved (R65). -/
inductive Reserved where
  /-- `cmd[27:24]` is not zero. -/
  | zeroField
  /-- The class is 6 to 15. -/
  | classField (cls : Nat)
  /-- A must-be-zero operand field of the word's format is not zero. -/
  | operandField
  deriving DecidableEq, Repr

/-- The pseudo-operations of R67. -/
inductive Pseudo where
  | wrreg (r : RegName) (v : Byte)
  | rdreg (r : RegName)
  | line
  | vline
  | frame
  | loadTile (n : Nat) (bytes : Vector Byte 16)
  | fill (a n : Nat) (v : Byte)
  | sprite (k : Nat) (y x t f : Byte)
  deriving DecidableEq, Repr

end Sys2Proof
end

