-- ==== Sys2Proof/WellFormed.lean ====
section
/-!
DEFINITION. Which instructions are well formed: the address operand of a bus row lies in the range of that row
(30_encoding.md R63). Every other operand takes every value of its width (R62).
-/

namespace Sys2Proof

/-- `a` selects nothing of the block (R41). -/
abbrev isUnmapped (c : Config) (a : Addr) : Prop :=
  ¬ inVram a ∧ ¬ inOam c a ∧ a ∉ c.regAddr.toList

/-- Well-formedness of an instruction under a configuration. -/
def wellFormed (c : Config) : Instr → Bool
  | .rdVram a => decide (inVram a)
  | .wrVram a _ => decide (inVram a)
  | .rdOam a => decide (inOam c a)
  | .wrOam a _ => decide (inOam c a)
  | .rdUnmapped a => decide (isUnmapped c a)
  | .wrUnmapped a _ => decide (isUnmapped c a)
  | .rdLcdc | .rdStat | .rdScy | .rdScx | .rdLy | .rdLyc | .rdBgp | .rdObp0 | .rdObp1 | .rdWy | .rdWx => true
  | .wrLcdc _ | .wrStat _ | .wrScy _ | .wrScx _ | .wrLy _ | .wrLyc _ | .wrBgp _ | .wrObp0 _ | .wrObp1 _ => true
  | .wrWy _ | .wrWx _ | .modeDone | .getPixel _ _ | .snapshot | .reset => true

end Sys2Proof
end

