-- ==== Sys2Proof/Decode.lean ====
section
/-!
DEFINITION. Decoding and encoding of the 32-bit command word (30_encoding.md R61 to R65), the bus address decode
(20_memory.md R41), the opcode table as data (spec/opcode_table.json), and the pseudo-operations' expansions (R67).
The decoder is total: a reserved word is rejected by name (R65).
-/

namespace Sys2Proof

/-! ## The bus address decode (R41) -/

/-- The register at address `a`, if there is one (R41, R11: each address selects exactly one register). -/
def regAt (c : Config) (a : Addr) : Option RegName :=
  if a = c.regAddr.lcdc then some .lcdc
  else if a = c.regAddr.stat then some .stat
  else if a = c.regAddr.scy then some .scy
  else if a = c.regAddr.scx then some .scx
  else if a = c.regAddr.ly then some .ly
  else if a = c.regAddr.lyc then some .lyc
  else if a = c.regAddr.bgp then some .bgp
  else if a = c.regAddr.obp0 then some .obp0
  else if a = c.regAddr.obp1 then some .obp1
  else if a = c.regAddr.wy then some .wy
  else if a = c.regAddr.wx then some .wx
  else none

/-- R41: VRAM, else OAM, else a register, else unmapped. -/
def busTarget (c : Config) (a : Addr) : BusTarget :=
  if inVram a then .vram
  else if inOam c a then .oam
  else match regAt c a with
    | some r => .reg r
    | none => .unmapped

/-- The class 0 row of an address (R63). -/
def rdRow (c : Config) (a : Addr) : Instr :=
  match busTarget c a with
  | .vram => .rdVram a
  | .oam => .rdOam a
  | .reg .lcdc => .rdLcdc
  | .reg .stat => .rdStat
  | .reg .scy => .rdScy
  | .reg .scx => .rdScx
  | .reg .ly => .rdLy
  | .reg .lyc => .rdLyc
  | .reg .bgp => .rdBgp
  | .reg .obp0 => .rdObp0
  | .reg .obp1 => .rdObp1
  | .reg .wy => .rdWy
  | .reg .wx => .rdWx
  | .unmapped => .rdUnmapped a

/-- The class 1 row of an address (R63). -/
def wrRow (c : Config) (a : Addr) (v : Byte) : Instr :=
  match busTarget c a with
  | .vram => .wrVram a v
  | .oam => .wrOam a v
  | .reg .lcdc => .wrLcdc v
  | .reg .stat => .wrStat v
  | .reg .scy => .wrScy v
  | .reg .scx => .wrScx v
  | .reg .ly => .wrLy v
  | .reg .lyc => .wrLyc v
  | .reg .bgp => .wrBgp v
  | .reg .obp0 => .wrObp0 v
  | .reg .obp1 => .wrObp1 v
  | .reg .wy => .wrWy v
  | .reg .wx => .wrWx v
  | .unmapped => .wrUnmapped a v

/-! ## The command word (R61, R64) -/

/-- `cmd[31:28]`. -/
def cmdClass (w : Cmd) : BitVec 4 := w.extractLsb' 28 4

/-- `cmd[27:24]`, which must be 0 in every format. -/
def cmdZero (w : Cmd) : BitVec 4 := w.extractLsb' 24 4

/-- Operand A, `cmd[23:8]`. -/
def cmdA (w : Cmd) : Addr := w.extractLsb' 8 16

/-- Operand B, `cmd[7:0]`. -/
def cmdB (w : Cmd) : Byte := w.extractLsb' 0 8

/-- `x = cmd[23:16]` of format P, from operand A (R61). -/
def pixelX (a : Addr) : Byte := a.extractLsb' 8 8

/-- `y = cmd[15:8]` of format P, from operand A (R61). -/
def pixelY (a : Addr) : Byte := a.extractLsb' 0 8

/-- Operand A of format P from its two coordinates (R61). -/
def pixelOperand (x y : Byte) : Addr := x ++ y

/-- `ok i` when a must-be-zero condition holds, else the word is reserved (R65). -/
def requireZero (ok : Bool) (i : Instr) : Except Reserved Instr :=
  if ok then .ok i else .error .operandField

/-- R64: reading a command word. -/
def decode (c : Config) (w : Cmd) : Except Reserved Instr :=
  if cmdZero w ≠ 0 then .error .zeroField
  else match (cmdClass w).toNat with
    | 0 => requireZero (cmdB w == 0) (rdRow c (cmdA w))
    | 1 => .ok (wrRow c (cmdA w) (cmdB w))
    | 2 => requireZero (cmdA w == 0 && cmdB w == 0) .modeDone
    | 3 => requireZero (cmdB w == 0) (.getPixel (pixelX (cmdA w)) (pixelY (cmdA w)))
    | 4 => requireZero (cmdA w == 0 && cmdB w == 0) .snapshot
    | 5 => requireZero (cmdA w == 0 && cmdB w == 0) .reset
    | n => .error (.classField n)

/-- The decoder as the host asks for it, under the default configuration: the block has one 32-bit word and no
bytes, so the word's number is the command word itself. -/
def decodeTableWord (nbits w : Nat) : Option Instr :=
  if nbits ≤ 32 ∧ w < 2 ^ nbits then
    match decode Config.default (BitVec.ofNat 32 w) with
    | .ok i => some i
    | .error _ => none
  else none

/-! ## The encoder -/

/-- A word of R61 from its class and its two operands. -/
def cmdWord (cls : BitVec 4) (a : Addr) (b : Byte) : Cmd := cls ++ (0 : BitVec 4) ++ a ++ b

/-- The command word of a class 0 operation (format B; operand B must be 0). -/
def rdWord (a : Addr) : Cmd := cmdWord 0 a 0

/-- The command word of a class 1 operation (format B). -/
def wrWord (a : Addr) (v : Byte) : Cmd := cmdWord 1 a v

/-- The command word of an instruction (R61, R63). -/
def encode (c : Config) : Instr → Cmd
  | .rdVram a => rdWord a
  | .wrVram a v => wrWord a v
  | .rdOam a => rdWord a
  | .wrOam a v => wrWord a v
  | .rdLcdc => rdWord c.regAddr.lcdc
  | .wrLcdc v => wrWord c.regAddr.lcdc v
  | .rdStat => rdWord c.regAddr.stat
  | .wrStat v => wrWord c.regAddr.stat v
  | .rdScy => rdWord c.regAddr.scy
  | .wrScy v => wrWord c.regAddr.scy v
  | .rdScx => rdWord c.regAddr.scx
  | .wrScx v => wrWord c.regAddr.scx v
  | .rdLy => rdWord c.regAddr.ly
  | .wrLy v => wrWord c.regAddr.ly v
  | .rdLyc => rdWord c.regAddr.lyc
  | .wrLyc v => wrWord c.regAddr.lyc v
  | .rdBgp => rdWord c.regAddr.bgp
  | .wrBgp v => wrWord c.regAddr.bgp v
  | .rdObp0 => rdWord c.regAddr.obp0
  | .wrObp0 v => wrWord c.regAddr.obp0 v
  | .rdObp1 => rdWord c.regAddr.obp1
  | .wrObp1 v => wrWord c.regAddr.obp1 v
  | .rdWy => rdWord c.regAddr.wy
  | .wrWy v => wrWord c.regAddr.wy v
  | .rdWx => rdWord c.regAddr.wx
  | .wrWx v => wrWord c.regAddr.wx v
  | .modeDone => cmdWord 2 0 0
  | .getPixel x y => cmdWord 3 (pixelOperand x y) 0
  | .snapshot => cmdWord 4 0 0
  | .reset => cmdWord 5 0 0
  | .rdUnmapped a => rdWord a
  | .wrUnmapped a v => wrWord a v

/-! ## The opcode table (spec/opcode_table.json), for the default parameters -/

/-- The mnemonic of an instruction, as spec/opcode_table.json spells it. -/
def mnemonic : Instr → String
  | .rdVram _ => "RD.VRAM"
  | .wrVram _ _ => "WR.VRAM"
  | .rdOam _ => "RD.OAM"
  | .wrOam _ _ => "WR.OAM"
  | .rdLcdc => "RD.LCDC"
  | .wrLcdc _ => "WR.LCDC"
  | .rdStat => "RD.STAT"
  | .wrStat _ => "WR.STAT"
  | .rdScy => "RD.SCY"
  | .wrScy _ => "WR.SCY"
  | .rdScx => "RD.SCX"
  | .wrScx _ => "WR.SCX"
  | .rdLy => "RD.LY"
  | .wrLy _ => "WR.LY"
  | .rdLyc => "RD.LYC"
  | .wrLyc _ => "WR.LYC"
  | .rdBgp => "RD.BGP"
  | .wrBgp _ => "WR.BGP"
  | .rdObp0 => "RD.OBP0"
  | .wrObp0 _ => "WR.OBP0"
  | .rdObp1 => "RD.OBP1"
  | .wrObp1 _ => "WR.OBP1"
  | .rdWy => "RD.WY"
  | .wrWy _ => "WR.WY"
  | .rdWx => "RD.WX"
  | .wrWx _ => "WR.WX"
  | .modeDone => "MODE_DONE"
  | .getPixel _ _ => "GETPIXEL"
  | .snapshot => "SNAPSHOT"
  | .reset => "RESET"
  | .rdUnmapped _ => "RD.UNMAPPED"
  | .wrUnmapped _ _ => "WR.UNMAPPED"

/-- The rows of the table that are no fallback: mnemonic, match, mask. -/
def opcodeRows : List (String × Cmd × Cmd) :=
  [("RD.VRAM", 0x00800000, 0xFFE000FF), ("WR.VRAM", 0x10800000, 0xFFE00000),
   ("RD.OAM", 0x00FE0000, 0xFFFF80FF), ("RD.OAM", 0x00FE8000, 0xFFFFE0FF),
   ("WR.OAM", 0x10FE0000, 0xFFFF8000), ("WR.OAM", 0x10FE8000, 0xFFFFE000),
   ("RD.LCDC", 0x00FF4000, 0xFFFFFFFF), ("WR.LCDC", 0x10FF4000, 0xFFFFFF00),
   ("RD.STAT", 0x00FF4100, 0xFFFFFFFF), ("WR.STAT", 0x10FF4100, 0xFFFFFF00),
   ("RD.SCY", 0x00FF4200, 0xFFFFFFFF), ("WR.SCY", 0x10FF4200, 0xFFFFFF00),
   ("RD.SCX", 0x00FF4300, 0xFFFFFFFF), ("WR.SCX", 0x10FF4300, 0xFFFFFF00)] ++
  [("RD.LY", 0x00FF4400, 0xFFFFFFFF), ("WR.LY", 0x10FF4400, 0xFFFFFF00),
   ("RD.LYC", 0x00FF4500, 0xFFFFFFFF), ("WR.LYC", 0x10FF4500, 0xFFFFFF00),
   ("RD.BGP", 0x00FF4700, 0xFFFFFFFF), ("WR.BGP", 0x10FF4700, 0xFFFFFF00),
   ("RD.OBP0", 0x00FF4800, 0xFFFFFFFF), ("WR.OBP0", 0x10FF4800, 0xFFFFFF00),
   ("RD.OBP1", 0x00FF4900, 0xFFFFFFFF), ("WR.OBP1", 0x10FF4900, 0xFFFFFF00),
   ("RD.WY", 0x00FF4A00, 0xFFFFFFFF), ("WR.WY", 0x10FF4A00, 0xFFFFFF00),
   ("RD.WX", 0x00FF4B00, 0xFFFFFFFF), ("WR.WX", 0x10FF4B00, 0xFFFFFF00),
   ("MODE_DONE", 0x20000000, 0xFFFFFFFF), ("GETPIXEL", 0x30000000, 0xFF0000FF),
   ("SNAPSHOT", 0x40000000, 0xFFFFFFFF), ("RESET", 0x50000000, 0xFFFFFFFF)]

/-- The two fallback rows, of lowest priority (R63). -/
def fallbackRows : List (String × Cmd × Cmd) :=
  [("RD.UNMAPPED", 0x00000000, 0xFF0000FF), ("WR.UNMAPPED", 0x10000000, 0xFF000000)]

/-- A word belongs to a row when its masked bits are the row's. -/
def rowMatches (w : Cmd) (row : String × Cmd × Cmd) : Bool := w &&& row.2.2 == row.2.1

/-- The mnemonic the opcode table gives a word; none for a reserved word. -/
def tableMnemonic (w : Cmd) : Option String :=
  ((opcodeRows ++ fallbackRows).find? (rowMatches w)).map Prod.fst

/-! ## Pseudo-operations (R67) -/

/-- The operations a pseudo-operation stands for (R67). Addresses count on from the first in 16 bits. -/
def expand (c : Config) : Pseudo → List Instr
  | .wrreg r v => [wrRow c (c.regAddr.get r) v]
  | .rdreg r => [rdRow c (c.regAddr.get r)]
  | .line => List.replicate 3 .modeDone
  | .vline => [.modeDone]
  | .frame => (List.replicate 144 (List.replicate 3 Instr.modeDone)).flatten ++ List.replicate 10 .modeDone
  | .loadTile n bytes =>
    (List.finRange 16).map fun i => wrRow c (BitVec.ofNat 16 (0x8000 + 16 * n + i.val)) bytes[i]
  | .fill a n v => (List.range n).map fun i => wrRow c (BitVec.ofNat 16 (a + i)) v
  | .sprite k y x t f =>
    [wrRow c (c.oamBase + BitVec.ofNat 16 (4 * k)) y, wrRow c (c.oamBase + BitVec.ofNat 16 (4 * k + 1)) x,
     wrRow c (c.oamBase + BitVec.ofNat 16 (4 * k + 2)) t, wrRow c (c.oamBase + BitVec.ofNat 16 (4 * k + 3)) f]

end Sys2Proof
end

