-- ==== Sys2Proof/Machine/State.lean ====
section
/-!
DEFINITION. The state of the block (10_state.md R10) as plain data, the reasons a step can stop, and the state after
reset (70_reset_and_hazards.md R260). The last five fields are the model's own (notes/assumptions 1, 2, 3, 6, 9).
-/

namespace Sys2Proof.Machine

/-- The four modes (R7, R14). -/
inductive Mode where
  | hblank
  | vblank
  | oamScan
  | drawing
  deriving DecidableEq, Repr

/-- A byte store as a list of (index, byte), indices strictly rising. An index that is not listed holds no byte
anybody has written since RESET; what the block then sees there is a free value (notes/assumptions/6.md). -/
abbrev Memory := List Host.Cell

/-- The canonical form: indices strictly rising. -/
abbrev Memory.wf (m : Memory) : Prop := m.Pairwise fun a b => a.1 < b.1

/-- A latched sprite record (R25). -/
structure Sprite where
  y : Int
  x : Int
  tile : Byte
  bgPrio : Bool
  yFlip : Bool
  xFlip : Bool
  pal : Bool
  slot : Fin 40
  deriving DecidableEq, Repr

/-- One row of the framebuffer (R26). -/
abbrev Row := Vector Shade 160

/-- A snapshot of the framebuffer, rows first (47_timing_fsm_and_output.md R218). -/
abbrev Frame := Vector Row 144

/-- The response of one operation (00_scope.md R6, 30_encoding.md R60, 60_exceptions.md R243). -/
inductive Response where
  /-- No response: RESET, and before any operation. -/
  | none
  /-- `rdata` of a RD. -/
  | rdata (v : Byte)
  /-- `lyc_irq` of a WR or of MODE_DONE. -/
  | lycIrq (b : Bool)
  /-- `px` of GETPIXEL. -/
  | px (p : Shade)
  /-- `frame` of SNAPSHOT. -/
  | frame (f : Frame)
  deriving DecidableEq, Repr

/-- The block never faults (60_exceptions.md R240, 41_vram_views.md R103): there is no reason to name. -/
inductive Fault where
  deriving DecidableEq, Repr

/-- Why the model gives no next state. -/
inductive Refusal where
  /-- Raised by `exec` for an instruction with no meaning yet; safe (the run stops). No arm raises it. -/
  | notModelled (mnemonic : String)
  /-- Raised by `step` for a reserved command word, which spells no operation (R65, U6); safe. -/
  | reservedWord (why : Reserved)
  /-- Raised by `step` when the configuration is outside what the rules cover (U7); safe. -/
  | illFormedConfig
  deriving DecidableEq, Repr

/-- The state tuple of R10, the configuration, and the model's own fields. -/
structure State where
  /-- LCDC (R16). -/
  lcdc : Byte
  /-- STAT.mode (R14, R15). -/
  mode : Mode
  /-- STAT.match, the LYC-match flag (R15). -/
  lycMatch : Bool
  /-- STAT.ie, the bits of `STAT_WMASK` (R17). -/
  ie : Byte
  /-- SCY, SCX (R18). -/
  scy : Byte
  scx : Byte
  /-- LY (R19), LYC (R20). -/
  ly : Byte
  lyc : Byte
  /-- The palettes (R22). -/
  bgp : Byte
  obp0 : Byte
  obp1 : Byte
  /-- The window position (R21). -/
  wy : Byte
  wx : Byte
  /-- The window's line counter (R27, R249). -/
  winLine : Byte
  /-- Video memory, index `i` at bus address `0x8000 + i` (R23). -/
  vram : Memory
  /-- Object attribute memory, index `i` at bus address `OAM_BASE + i` (R24). -/
  oam : Memory
  /-- The latched records (R25); `none` until the first `oam_scan` after RESET (R262). -/
  spr : Option (Vector Sprite 40)
  /-- The framebuffer rows (R26); a row is `none` until it is rendered after RESET (R260, U3). -/
  fb : Vector (Option Row) 144
  /-- The parameters of R8; no step changes them. -/
  cfg : Config
  /-- Command words issued from outside and not yet executed, oldest first. -/
  cmds : List Cmd
  /-- The response of the last operation. -/
  resp : Response
  /-- How many RESET operations have run: names the free contents of the memories (R260). -/
  epoch : Nat
  /-- How many `draw(bit)` of R171 have been made. -/
  irqDraws : Nat
  deriving DecidableEq, Repr

/-- What one operation answers. -/
abbrev Result := Host.Outcome State Fault Refusal

/-- R260: the state after RESET of a machine with configuration `c`. `match` is 1 exactly when LYC is 0, because
RESET runs `set_ly(0)`. -/
def State.resetOf (c : Config) : State :=
  { lcdc := c.resetState.lcdc
    mode := .hblank
    lycMatch := c.resetState.lyc == 0
    ie := c.resetState.ie
    scy := c.resetState.scy
    scx := c.resetState.scx
    ly := 0
    lyc := c.resetState.lyc
    bgp := c.resetState.bgp
    obp0 := c.resetState.obp0
    obp1 := c.resetState.obp1
    wy := c.resetState.wy
    wx := c.resetState.wx
    winLine := 0
    vram := []
    oam := []
    spr := none
    fb := Vector.replicate 144 none
    cfg := c
    cmds := []
    resp := .none
    epoch := 0
    irqDraws := 0 }

/-- The machine right after reset, with the default parameters. -/
def State.reset : State := State.resetOf Config.default

end Sys2Proof.Machine
end

