-- ==== Sys2Proof/Machine/Operands.lean ====
section
/-!
DEFINITION. The operand forms of the operations and of the renderers: LCDC fields (10_state.md R16), offsets of bus
addresses (20_memory.md R41, R42), mode codes (00_scope.md R7), and the fields of an OAM entry (R24, R145).
-/

namespace Sys2Proof.Machine

/-- A field of LCDC: `LCDC[b]` of R9. -/
def State.lcdcBit (s : State) (b : Fin 8) : Bool := bit s.lcdc b

/-- The master enable (R16). -/
def State.lcdOn (s : State) : Bool := s.lcdcBit s.cfg.lcdcLcdEn

/-- Signed addressing mode: LCDC[`LCDC_TILE_DATA`] is 0 (R16, R120). -/
def State.signedTiles (s : State) : Bool := !s.lcdcBit s.cfg.lcdcTileData

/-- The mode codes of R7. -/
def Mode.code : Mode → BitVec 2
  | .hblank => 0
  | .vblank => 1
  | .oamScan => 2
  | .drawing => 3

/-- A bus address as the integer the internal accesses take (R42, R90). -/
abbrev addrInt (a : Addr) : Int := a.toNat

/-- The offset of a bus address from `OAM_BASE` (R41, R96). -/
abbrev oamOffset (c : Config) (a : Addr) : Int := addrInt a - addrInt c.oamBase

/-- Coordinates on the screen (R217). -/
abbrev onScreen (x y : Byte) : Prop := x.toNat ≤ 159 ∧ y.toNat ≤ 143

/-- A sprite record from the four bytes of OAM entry `k`: "Y, X, tile index, flag byte" (R25, R145). The
subtractions are on integers and do not wrap. -/
def spriteOf (c : Config) (k : Fin 40) (y x t f : Byte) : Sprite :=
  { y := (y.toNat : Int) - 16
    x := (x.toNat : Int) - 8
    tile := t
    bgPrio := bit f c.oamfBgPrio
    yFlip := bit f c.oamfYFlip
    xFlip := bit f c.oamfXFlip
    pal := bit f c.oamfPalette
    slot := k }

end Sys2Proof.Machine
end

