-- ==== Sys2Proof/Machine/Flags.lean ====
section
/-!
DEFINITION. The two status fields and the interrupt condition: the assembled value of STAT (10_state.md R17,
46_register_bank.md R174), `set_ly` (R195), the only writer of LY and of the match flag, and the `draw(bit)` of R171.
-/

namespace Sys2Proof.Machine

/-- The read value of STAT (R17, R174). -/
def statRead (s : State) : Byte :=
  (s.ie &&& s.cfg.statWmask) ||| ((BitVec.ofBool s.lycMatch).setWidth 8 <<< 2) ||| s.mode.code.setWidth 8

/-- The state `set_ly(v)` leaves (R195): LY and the match flag. -/
def setLy (s : State) (v : Byte) : State := { s with ly := v, lycMatch := v == s.lyc }

/-- The result of `set_ly(v)` (R195): match and the LYC interrupt enable. -/
def setLyFires (s : State) (v : Byte) : Bool := v == s.lyc && bit s.ie s.cfg.lycIeBit

/-- The `lyc_irq` response of a WR.LCDC whose forced `set_ly(0)` returned `fire` (R171, R243): a free bit when it
fired, else 0. -/
def answerLcdcIrq (s : State) (fire : Bool) : State :=
  if fire then { s with resp := .lycIrq (Config.freeIrq s.irqDraws), irqDraws := s.irqDraws + 1 }
  else { s with resp := .lycIrq false }

end Sys2Proof.Machine
end

