-- ==== Sys2Proof/Machine/Ops.lean ====
section
/-!
DEFINITION. The named operations over memories, the framebuffer and registers: cells in canonical form, `VramRead`,
`VramWrite`, `OamRead`, `OamWrite` (41_vram_views.md R90 to R92), the rows of the framebuffer (10_state.md R26), the
latched sprite records (R25), register reads (46_register_bank.md R172 to R192), and the response of an operation.

Taking an exception: the block raises none and takes no trap (60_exceptions.md R240, R246, R247), so there is no
shared entry and no return. Its one interrupt condition leaves as a response bit (R243).
-/

namespace Sys2Proof.Machine

/-! ## Cells -/

/-- The byte listed at index `i`, if there is one. -/
def Memory.readCell : Memory → Nat → Option Byte
  | [], _ => none
  | (j, v) :: m, i => if j = i then some v else Memory.readCell m i

/-- List byte `v` at index `i`, keeping the indices strictly rising. -/
def Memory.writeCell : Memory → Nat → Byte → Memory
  | [], i, v => [(i, v)]
  | (j, w) :: m, i, v =>
    if i < j then (i, v) :: (j, w) :: m
    else if i = j then (i, v) :: m
    else (j, w) :: Memory.writeCell m i v

/-! ## VRAM and OAM -/

/-- `vram[i]` (R23): the byte listed, else the free contents after the last RESET (R260, U1). -/
def vramByte (s : State) (i : Nat) : Byte := (s.vram.readCell i).getD (Config.freeByte .vram s.epoch i)

/-- `oam[i]` (R24): the byte listed, else the free contents after the last RESET (R260, U2). -/
def oamByte (s : State) (i : Nat) : Byte := (s.oam.readCell i).getD (Config.freeByte .oam s.epoch i)

/-- `VramRead(a)` (R90), for any integer. -/
def vramRead (s : State) (a : Int) : Byte :=
  if 0x8000 ≤ a ∧ a ≤ 0x9FFF then vramByte s (a - 0x8000).toNat else 0xFF

/-- `VramWrite(a, v)` (R91), for any integer. -/
def vramWrite (s : State) (a : Int) (v : Byte) : State :=
  if 0x8000 ≤ a ∧ a ≤ 0x9FFF then { s with vram := s.vram.writeCell (a - 0x8000).toNat v } else s

/-- `OamRead(i)` (R92), `i` an offset from `OAM_BASE`. -/
def oamRead (s : State) (i : Int) : Byte :=
  if 0 ≤ i ∧ i ≤ 159 then oamByte s i.toNat else 0xFF

/-- `OamWrite(i, v)` (R92). -/
def oamWrite (s : State) (i : Int) (v : Byte) : State :=
  if 0 ≤ i ∧ i ≤ 159 then { s with oam := s.oam.writeCell i.toNat v } else s

/-! ## The framebuffer -/

/-- A row never rendered since the last RESET: free pixels (R260, U3). -/
def freeRow (epoch y : Nat) : Row := Vector.ofFn fun x => Config.freeShade epoch y x.val

/-- `fb[y]` (R26). -/
def fbRow (s : State) (y : Nat) : Row := ((s.fb[y]?).getD none).getD (freeRow s.epoch y)

/-- Write row `y` of `fb`, `y` in 0..143. -/
def setFbRow (s : State) (y : Nat) (r : Row) : State := { s with fb := s.fb.setIfInBounds y (some r) }

/-! ## The latched sprite records -/

/-- The free record of slot `k` before the first scan (R260, U4): every field within its type (R25). -/
def freeSprite (c : Config) (epoch : Nat) (k : Fin 40) : Sprite :=
  { spriteOf c k (Config.freeByte .spr epoch (8 * k.val)) (Config.freeByte .spr epoch (8 * k.val + 1))
      (Config.freeByte .spr epoch (8 * k.val + 2)) 0 with
    bgPrio := bit (Config.freeByte .spr epoch (8 * k.val + 3)) 7
    yFlip := bit (Config.freeByte .spr epoch (8 * k.val + 3)) 6
    xFlip := bit (Config.freeByte .spr epoch (8 * k.val + 3)) 5
    pal := bit (Config.freeByte .spr epoch (8 * k.val + 3)) 4
    slot := Fin.ofNat 40 (Config.freeByte .spr epoch (8 * k.val + 4)).toNat }

/-- `spr[0..39]` (R25). -/
def sprites (s : State) : Vector Sprite 40 := s.spr.getD (Vector.ofFn (freeSprite s.cfg s.epoch))

/-! ## Registers -/

/-- The read value of a register (R172 to R192, even numbers): the stored byte, except STAT (R13, R17). -/
def regRead (s : State) : RegName → Byte
  | .lcdc => s.lcdc
  | .stat => statRead s
  | .scy => s.scy
  | .scx => s.scx
  | .ly => s.ly
  | .lyc => s.lyc
  | .bgp => s.bgp
  | .obp0 => s.obp0
  | .obp1 => s.obp1
  | .wy => s.wy
  | .wx => s.wx

/-! ## Responses -/

/-- Set the response of the current operation (`out` of R9). -/
def State.respond (s : State) (r : Response) : State := { s with resp := r }

/-- Complete a RD: `out.rdata <- v`, no other state changed (R47, R170). -/
def answerRead (s : State) (v : Byte) : Result := .next (s.respond (.rdata v))

/-- Complete an operation that leaves `s` and answers `lyc_irq` (R170, R243). -/
def answerIrq (s : State) (b : Bool) : Result := .next (s.respond (.lycIrq b))

end Sys2Proof.Machine
end

