-- ==== Sys2Proof/Machine/TileCodec.lean ====
section
/-!
DEFINITION. tile_decoder (40_tile_codec.md): the pure tile codec. `encodeTile` is called by no operation
(R83, D33).
-/

namespace Sys2Proof.Machine

/-- A decoded tile `t[r][c]` (R80). -/
abbrev Tile := Vector (Vector Shade 8) 8

/-- A software grid whose cells may be wider than 2 bits (R83). -/
abbrev Grid := Vector (Vector Nat 8) 8

/-- `tileRowPixel(lo, hi, c)` (R82): low plane bit 0, high plane bit 1, column `c` at bit `7 - c`. -/
def tileRowPixel (lo hi : Byte) (c : Nat) : Shade :=
  (BitVec.ofBool (lo.getLsbD (7 - c))).setWidth 2 ||| ((BitVec.ofBool (hi.getLsbD (7 - c))).setWidth 2 <<< 1)

/-- `decode(b)` (R81). -/
def decodeTile (b : Vector Byte 16) : Tile :=
  Vector.ofFn fun r => Vector.ofFn fun c => tileRowPixel b[2 * r.val] b[2 * r.val + 1] c.val

/-- One plane byte of a row of cells: bit `7 - c` is bit `plane` of the cell in column `c`, clamped to 3 (R83). -/
def planeByte (row : Vector Nat 8) (plane : Nat) : Byte :=
  (List.finRange 8).foldl
    (fun acc c => acc ||| (BitVec.ofBool ((min row[c] 3).testBit plane)).setWidth 8 <<< (7 - c.val)) 0

/-- `encode(t)` (R83): byte `2r` is the low plane of row `r`, byte `2r + 1` its high plane. -/
def encodeTile (t : Grid) : Vector Byte 16 :=
  Vector.ofFn fun i => planeByte t[i.val / 2] (i.val % 2)

/-- A decoded tile as a grid of numbers. -/
def Tile.toGrid (t : Tile) : Grid := t.map fun row => row.map BitVec.toNat

end Sys2Proof.Machine
end

