-- ==== Sys2Proof/Machine/Palette.lean ====
section
/-!
DEFINITION. palette_lut (42_palette.md): decoding and applying a palette register, and the display colours, which no
operation uses (R114).
-/

namespace Sys2Proof.Machine

/-- `(p >> (2 * raw)) & 3`, the composed form of R111. -/
def shade (raw : Shade) (p : Byte) : Shade := (p >>> (2 * raw.toNat)).setWidth 2

/-- `decodePalette(p)` (R110). -/
def decodePalette (p : Byte) : Vector Shade 4 := Vector.ofFn fun i => (p >>> (2 * i.val)).setWidth 2

/-- `applyPalette(raw, d)` (R111): clamped to 0..3, then indexed. -/
def applyPalette (raw : Nat) (d : Vector Shade 4) : Shade := d[min raw 3]

/-- The palette of one scheme. -/
def schemeTable (c : Config) : Scheme → Vector Rgb 4
  | .green => c.rgbTable.green
  | .grayscale => c.rgbTable.grayscale

/-- `toDisplayColor(final, scheme)` (R114): an invalid index clamps to entry 3, the darkest (D10). -/
def toDisplayColor (c : Config) (final : Nat) (scheme : Scheme) : Rgb :=
  (schemeTable c scheme)[min final 3]

end Sys2Proof.Machine
end

