-- ==== Sys2Proof/Machine/VramViews.lean ====
section
/-!
DEFINITION. vram_dual_view_model, the views (41_vram_views.md R98 to R101): the two pattern tables, the tile maps and
the read path of the renderers.
-/

namespace Sys2Proof.Machine

/-- `tileAddress(index, useSignedMode)` (R98), on integers. -/
def tileAddress (c : Config) (index : Byte) (signed : Bool) : Int :=
  if signed then addrInt c.tileBaseSigned + 16 * index.toInt
  else addrInt c.tileBaseUnsigned + 16 * (index.toNat : Int)

/-- `tileMapAddress(x, y, useMapB)` (R99). -/
def tileMapAddress (c : Config) (x y : Int) (useMapB : Bool) : Int :=
  (if useMapB then addrInt c.mapBBase else addrInt c.mapABase) + 32 * y + x

/-- `tileMapEntry(x, y, useMapB)` (R99): the tile index, 0 out of range (D23). -/
def tileMapEntry (s : State) (x y : Int) (useMapB : Bool) : Byte :=
  if 0 ≤ x ∧ x ≤ 31 ∧ 0 ≤ y ∧ y ≤ 31 then vramRead s (tileMapAddress s.cfg x y useMapB) else 0

/-- The address of the tile at a map position (R100). -/
def mapTileAddress (s : State) (mapX mapY : Int) (useMapB signed : Bool) : Int :=
  tileAddress s.cfg (tileMapEntry s mapX mapY useMapB) signed

/-- `getTileFromMap` (R100): the whole decoded tile. -/
def getTileFromMap (s : State) (mapX mapY : Int) (useMapB signed : Bool) : Tile :=
  decodeTile (Vector.ofFn fun i => vramRead s (mapTileAddress s mapX mapY useMapB signed + i.val))

/-- `mapPixel` (R101), the form that reads three bytes. -/
def mapPixel (s : State) (mapX mapY : Int) (col row : Nat) (useMapB signed : Bool) : Shade :=
  tileRowPixel (vramRead s (mapTileAddress s mapX mapY useMapB signed + 2 * row))
    (vramRead s (mapTileAddress s mapX mapY useMapB signed + 2 * row + 1)) col

end Sys2Proof.Machine
end

