-- ==== Sys2Proof/Machine/Background.lean ====
section
/-!
DEFINITION. background_renderer_pipeline (43_background.md R120 to R122).
-/

namespace Sys2Proof.Machine

/-- The background's shade at screen column `sx` of line `ly` (R120, layer enabled). The sums are modulo 256 (R122). -/
def bgPixel (s : State) (ly sx : Nat) : Shade :=
  let bgY := (s.scy.toNat + ly) % 256
  let bgX := (s.scx.toNat + sx) % 256
  shade (mapPixel s (bgX / 8 : Nat) (bgY / 8 : Nat) (bgX % 8) (bgY % 8)
    (s.lcdcBit s.cfg.lcdcBgMap) s.signedTiles) s.bgp

/-- The row `render_bg` writes: background pixels, or `LIGHTEST` when the layer is disabled (R120, R121). -/
def bgRow (s : State) (ly : Nat) : Row :=
  if s.lcdcBit s.cfg.lcdcBgEn then Vector.ofFn fun sx => bgPixel s ly sx.val
  else Vector.replicate 160 s.cfg.lightest

/-- `render_bg(ly)` (R120). -/
def renderBg (s : State) (ly : Nat) : State := setFbRow s ly (bgRow s ly)

end Sys2Proof.Machine
end

