-- ==== Sys2Proof/Machine/Window.lean ====
section
/-!
DEFINITION. window_renderer_pipeline (44_window.md R130 to R137).
-/

namespace Sys2Proof.Machine

/-- `window_visible(ly)` (R130). -/
def windowVisible (s : State) (ly : Nat) : Bool :=
  s.lcdcBit s.cfg.lcdcWinEn && decide (s.wy.toNat ≤ ly)

/-- `WX - 7` on integers (R131). -/
def windowStart (s : State) : Int := (s.wx.toNat : Int) - 7

/-- The window's shade at a covered screen column (R132): the window's row is `win_line`, not `ly`. -/
def windowPixel (s : State) (sx : Nat) : Shade :=
  let winX := ((sx : Int) - windowStart s).toNat
  let winY := s.winLine.toNat
  shade (mapPixel s (winX / 8 : Nat) (winY / 8 : Nat) (winX % 8) (winY % 8)
    (s.lcdcBit s.cfg.lcdcWinMap) s.signedTiles) s.bgp

/-- The line with the window drawn over columns `max(0, WX - 7)` to 159 (R131, R137). -/
def windowRow (s : State) (row : Row) : Row :=
  row.mapIdx fun sx old => if windowStart s ≤ (sx : Int) then windowPixel s sx else old

/-- `render_window(ly)` (R137): draw, then count the line (R133). -/
def renderWindow (s : State) (ly : Nat) : State :=
  if windowVisible s ly then
    { setFbRow s ly (windowRow s (fbRow s ly)) with winLine := s.winLine + 1 }
  else s

end Sys2Proof.Machine
end

