-- ==== Sys2Proof/Machine/Sprites.lean ====
section
/-!
DEFINITION. sprite_priority_sorter and sprite_compositor (45_sprites.md R145 to R158).
-/

namespace Sys2Proof.Machine

/-! ## Scan -/

/-- The record of slot `k` as the OAM bytes give it now (R145). -/
def scanSprite (s : State) (k : Fin 40) : Sprite :=
  spriteOf s.cfg k (oamRead s (4 * k.val : Nat)) (oamRead s (4 * k.val + 1 : Nat))
    (oamRead s (4 * k.val + 2 : Nat)) (oamRead s (4 * k.val + 3 : Nat))

/-- `oam_scan()` (R145). -/
def oamScan (s : State) : State := { s with spr := some (Vector.ofFn (scanSprite s)) }

/-! ## Sorter -/

/-- The sprite height (R148). -/
def spriteHeight (s : State) : Int := if s.lcdcBit s.cfg.lcdcObjSize then 16 else 8

/-- A candidate of line `ly` (R149); there is no test on `x`. -/
abbrev Sprite.covers (sp : Sprite) (h ly : Int) : Prop := sp.y ≤ ly ∧ ly ≤ sp.y + h - 1

/-- The priority order (R150): ascending `x`, ties by ascending slot. -/
abbrev Sprite.before (a b : Sprite) : Prop := a.x < b.x ∨ (a.x = b.x ∧ a.slot ≤ b.slot)

/-- The candidates of a line, in slot order (R149). -/
def candidates (s : State) (ly : Nat) : List Sprite :=
  (sprites s).toList.filter fun sp => decide (sp.covers (spriteHeight s) ly)

/-- The kept sprites, highest priority first: sort, then the first 10 (R150, R151). -/
def priorityList (s : State) (ly : Nat) : List Sprite :=
  ((candidates s ly).insertionSort Sprite.before).take 10

/-! ## Compositor -/

/-- The row inside the sprite, vertical flip applied (R153). -/
def spriteRow (h : Int) (sp : Sprite) (ly : Nat) : Int :=
  if sp.yFlip then h - 1 - ((ly : Int) - sp.y) else (ly : Int) - sp.y

/-- The tile index: for 16-pixel sprites the top half forces the low bit to 0, the bottom half to 1 (R153). -/
def spriteTile (h : Int) (sp : Sprite) (ly : Nat) : Byte :=
  if h = 16 then (if spriteRow h sp ly < 8 then sp.tile &&& 0xFE else sp.tile ||| 0x01) else sp.tile

/-- The row inside that tile, re-based by -8 in the bottom half (R153). -/
def spriteTileRow (h : Int) (sp : Sprite) (ly : Nat) : Int :=
  if h = 16 ∧ ¬ spriteRow h sp ly < 8 then spriteRow h sp ly - 8 else spriteRow h sp ly

/-- The address of the tile's two data bytes of that row: always unsigned mode (R153, D12). -/
def spriteDataAddress (s : State) (sp : Sprite) (ly : Nat) : Int :=
  tileAddress s.cfg (spriteTile (spriteHeight s) sp ly) false + 2 * spriteTileRow (spriteHeight s) sp ly

/-- The raw colour of sprite column `col` (R154): an unflipped sprite shows the tile as the codec decodes it (C5). -/
def spriteRaw (s : State) (sp : Sprite) (ly col : Nat) : Shade :=
  tileRowPixel (vramRead s (spriteDataAddress s sp ly)) (vramRead s (spriteDataAddress s sp ly + 1))
    (if sp.xFlip then 7 - col else col)

/-- The sprite's palette register (R112, R155). -/
def spritePalette (s : State) (sp : Sprite) : Byte := if sp.pal then s.obp1 else s.obp0

/-- What a pixel becomes when sprite column `col` falls on it (R155): raw 0 is transparent; a background-priority
sprite draws only over `LIGHTEST`, the shade now in the row (R158). -/
def spritePixel (s : State) (sp : Sprite) (ly col : Nat) (old : Shade) : Shade :=
  if spriteRaw s sp ly col = 0 then old
  else if sp.bgPrio ∧ old ≠ s.cfg.lightest then old
  else shade (spriteRaw s sp ly col) (spritePalette s sp)

/-- One sprite drawn on a row: its eight columns that are on the screen (R154, R156). -/
def drawSprite (s : State) (ly : Nat) (row : Row) (sp : Sprite) : Row :=
  row.mapIdx fun sx old =>
    if sp.x ≤ (sx : Int) ∧ (sx : Int) ≤ sp.x + 7 then spritePixel s sp ly ((sx : Int) - sp.x).toNat old else old

/-- The kept sprites drawn in reverse of the priority order (R152). -/
def spriteLayer (s : State) (ly : Nat) (row : Row) : Row :=
  (priorityList s ly).reverse.foldl (drawSprite s ly) row

/-- Whether the sprite layer runs: only `OBJ_ENABLE_BIT` can gate it (R157, D7). -/
def spritesEnabled (s : State) : Bool :=
  match s.cfg.objEnableBit with
  | some b => s.lcdcBit b
  | none => true

/-- `render_sprites(ly)` (R156). -/
def renderSprites (s : State) (ly : Nat) : State :=
  if spritesEnabled s then setFbRow s ly (spriteLayer s ly (fbRow s ly)) else s

end Sys2Proof.Machine
end

