-- ==== Sys2Proof/Machine/Sequencer.lean ====
section
/-!
DEFINITION. The procedures that move the sequencer position (10_state.md R14): `enter_oamscan`
(47_timing_fsm_and_output.md R220), `render_line` (R216), `lcd_off` and `lcd_on` (46_register_bank.md R196, R197).
-/

namespace Sys2Proof.Machine

/-- `enter_oamscan()` (R220), with LY already the new line. -/
def enterOamScan (s : State) : State :=
  if s.cfg.oamScanPolicy = .perLine ∨ s.ly = 0 then oamScan { s with mode := .oamScan }
  else { s with mode := .oamScan }

/-- `render_line(ly)` (R216): background, window, sprites, in that order. -/
def renderLine (s : State) (ly : Nat) : State := renderSprites (renderWindow (renderBg s ly) ly) ly

/-- The state `lcd_off()` leaves (R196); its result is `setLyFires s 0`. -/
def lcdOff (s : State) : State := { setLy s 0 with mode := .hblank, winLine := 0 }

/-- The state `lcd_on()` leaves (R197); its result is `setLyFires s 0`. -/
def lcdOnState (s : State) : State := enterOamScan { setLy s 0 with winLine := 0 }

end Sys2Proof.Machine
end

