-- ==== Sys2Proof/Machine/RegisterBank.lean ====
section
/-!
DEFINITION. ppu_register_bank (46_register_bank.md): one meaning per register and direction.
-/

namespace Sys2Proof.Machine

/-! ## Reads -/

/-- RD.LCDC (R172). -/
def execRdLcdc (s : State) : Result := answerRead s (regRead s .lcdc)

/-- RD.STAT (R174). -/
def execRdStat (s : State) : Result := answerRead s (regRead s .stat)

/-- RD.SCY (R176). -/
def execRdScy (s : State) : Result := answerRead s (regRead s .scy)

/-- RD.SCX (R178). -/
def execRdScx (s : State) : Result := answerRead s (regRead s .scx)

/-- RD.LY (R180). -/
def execRdLy (s : State) : Result := answerRead s (regRead s .ly)

/-- RD.LYC (R182). -/
def execRdLyc (s : State) : Result := answerRead s (regRead s .lyc)

/-- RD.BGP (R184). -/
def execRdBgp (s : State) : Result := answerRead s (regRead s .bgp)

/-- RD.OBP0 (R186). -/
def execRdObp0 (s : State) : Result := answerRead s (regRead s .obp0)

/-- RD.OBP1 (R188). -/
def execRdObp1 (s : State) : Result := answerRead s (regRead s .obp1)

/-- RD.WY (R190). -/
def execRdWy (s : State) : Result := answerRead s (regRead s .wy)

/-- RD.WX (R192). -/
def execRdWx (s : State) : Result := answerRead s (regRead s .wx)

/-! ## WR.LCDC -/

/-- The byte stored, and the window counter zeroed when the old window enable was 0 (R134, R171). -/
def storeLcdc (v : Byte) (s : State) : State :=
  { s with lcdc := v, winLine := if s.lcdcBit s.cfg.lcdcWinEn then s.winLine else 0 }

/-- WR.LCDC (R171): store, then the side effects of a toggle of the master enable. -/
def execWrLcdc (v : Byte) (s : State) : Result :=
  if s.lcdOn && !bit v s.cfg.lcdcLcdEn then
    .next (answerLcdcIrq (lcdOff (storeLcdc v s)) (setLyFires s 0))
  else if !s.lcdOn && bit v s.cfg.lcdcLcdEn then
    .next (answerLcdcIrq (lcdOnState (storeLcdc v s)) (setLyFires s 0))
  else .next (answerLcdcIrq (storeLcdc v s) false)

/-! ## The other writes: plain storage, STAT masked, LY ignored -/

/-- WR.STAT (R173): only the bits of `STAT_WMASK`. -/
def execWrStat (v : Byte) (s : State) : Result := answerIrq { s with ie := v &&& s.cfg.statWmask } false

/-- WR.SCY (R175). -/
def execWrScy (v : Byte) (s : State) : Result := answerIrq { s with scy := v } false

/-- WR.SCX (R177). -/
def execWrScx (v : Byte) (s : State) : Result := answerIrq { s with scx := v } false

/-- WR.LY (R179): nothing is written. -/
def execWrLy (_v : Byte) (s : State) : Result := answerIrq s false

/-- WR.LYC (R181): no comparison is made. -/
def execWrLyc (v : Byte) (s : State) : Result := answerIrq { s with lyc := v } false

/-- WR.BGP (R183). -/
def execWrBgp (v : Byte) (s : State) : Result := answerIrq { s with bgp := v } false

/-- WR.OBP0 (R185). -/
def execWrObp0 (v : Byte) (s : State) : Result := answerIrq { s with obp0 := v } false

/-- WR.OBP1 (R187). -/
def execWrObp1 (v : Byte) (s : State) : Result := answerIrq { s with obp1 := v } false

/-- WR.WY (R189). -/
def execWrWy (v : Byte) (s : State) : Result := answerIrq { s with wy := v } false

/-- WR.WX (R191). -/
def execWrWx (v : Byte) (s : State) : Result := answerIrq { s with wx := v } false

end Sys2Proof.Machine
end

