-- ==== Sys2Proof/Machine/Bus.lean ====
section
/-!
DEFINITION. The bus rows that are no register (41_vram_views.md R94 to R97, 46_register_bank.md R193, R194) and the
two bus primitives `MemRead` and `MemWrite` (20_memory.md R43, R44).
-/

namespace Sys2Proof.Machine

/-- RD.VRAM (R94). -/
def execRdVram (a : Addr) (s : State) : Result := answerRead s (vramRead s (addrInt a))

/-- WR.VRAM (R95). -/
def execWrVram (a : Addr) (v : Byte) (s : State) : Result := answerIrq (vramWrite s (addrInt a) v) false

/-- RD.OAM (R96). -/
def execRdOam (a : Addr) (s : State) : Result := answerRead s (oamRead s (oamOffset s.cfg a))

/-- WR.OAM (R97): the byte store only; the latched records are untouched (R52). -/
def execWrOam (a : Addr) (v : Byte) (s : State) : Result := answerIrq (oamWrite s (oamOffset s.cfg a) v) false

/-- RD.UNMAPPED (R193). -/
def execRdUnmapped (_a : Addr) (s : State) : Result := answerRead s 0xFF

/-- WR.UNMAPPED (R194). -/
def execWrUnmapped (_a : Addr) (_v : Byte) (s : State) : Result := answerIrq s false

/-- `MemRead(a, 1)` (R43), by the decode of R41. -/
def memRead (s : State) (a : Addr) : Byte :=
  match busTarget s.cfg a with
  | .vram => vramByte s (a.toNat - 0x8000)
  | .oam => oamByte s (a.toNat - s.cfg.oamBase.toNat)
  | .reg r => regRead s r
  | .unmapped => 0xFF

/-- The write rule of a register (R171 to R191, odd numbers). -/
def regWrite (r : RegName) (v : Byte) (s : State) : Result :=
  match r with
  | .lcdc => execWrLcdc v s
  | .stat => execWrStat v s
  | .scy => execWrScy v s
  | .scx => execWrScx v s
  | .ly => execWrLy v s
  | .lyc => execWrLyc v s
  | .bgp => execWrBgp v s
  | .obp0 => execWrObp0 v s
  | .obp1 => execWrObp1 v s
  | .wy => execWrWy v s
  | .wx => execWrWx v s

/-- `MemWrite(a, 1, v)` (R44), by the decode of R41. -/
def memWrite (s : State) (a : Addr) (v : Byte) : Result :=
  match busTarget s.cfg a with
  | .vram => answerIrq { s with vram := s.vram.writeCell (a.toNat - 0x8000) v } false
  | .oam => answerIrq { s with oam := s.oam.writeCell (a.toNat - s.cfg.oamBase.toNat) v } false
  | .reg r => regWrite r v s
  | .unmapped => answerIrq s false

end Sys2Proof.Machine
end

