-- ==== Sys2Proof/Machine/Timing.lean ====
section
/-!
DEFINITION. ppu_timing_fsm (47_timing_fsm_and_output.md R210 to R215): MODE_DONE, one case for the LCD off and one for
each mode.
-/

namespace Sys2Proof.Machine

/-- MODE_DONE in OAMScan (R212): enter Drawing and render the line. -/
def modeDoneOamScan (s : State) : Result :=
  answerIrq (renderLine { s with mode := .drawing } s.ly.toNat) false

/-- MODE_DONE in Drawing (R213). -/
def modeDoneDrawing (s : State) : Result := answerIrq { s with mode := .hblank } false

/-- MODE_DONE in HBlank (R214): the next line, or V-Blank from line 144 on. -/
def modeDoneHBlank (s : State) : Result :=
  let s1 := setLy s (s.ly + 1)
  answerIrq (if 144 ≤ s.ly.toNat + 1 then { s1 with mode := .vblank } else enterOamScan s1)
    (setLyFires s (s.ly + 1))

/-- MODE_DONE in VBlank (R215): the next line, or the wrap from 153 to 0. -/
def modeDoneVBlank (s : State) : Result :=
  if 153 ≤ s.ly.toNat then
    answerIrq (enterOamScan { setLy s 0 with winLine := 0 }) (setLyFires s 0)
  else answerIrq (setLy s (s.ly + 1)) (setLyFires s (s.ly + 1))

/-- MODE_DONE (R210): nothing while the LCD is off (R211), else the one transition of the mode. -/
def execModeDone (s : State) : Result :=
  if s.lcdOn then
    match s.mode with
    | .oamScan => modeDoneOamScan s
    | .drawing => modeDoneDrawing s
    | .hblank => modeDoneHBlank s
    | .vblank => modeDoneVBlank s
  else answerIrq s false

end Sys2Proof.Machine
end

