-- ==== Sys2Proof/Machine/Output.lean ====
section
/-!
DEFINITION. pixel_fifo_and_output and RESET (47_timing_fsm_and_output.md R217 to R219, 70_reset_and_hazards.md R260).
There is no pixel FIFO (R221, C9).
-/

namespace Sys2Proof.Machine

/-- `fb[y][x]`, and 0 off the screen (R217, D20). -/
def pixelAt (s : State) (x y : Nat) : Shade :=
  if y ≤ 143 then ((fbRow s y)[x]?).getD 0 else 0

/-- GETPIXEL (R217). -/
def execGetPixel (x y : Byte) (s : State) : Result := .next (s.respond (.px (pixelAt s x.toNat y.toNat)))

/-- The whole framebuffer, rows first (R218, D34). -/
def frameOf (s : State) : Frame := Vector.ofFn fun y => fbRow s y.val

/-- SNAPSHOT (R218). -/
def execSnapshot (s : State) : Result := .next (s.respond (.frame (frameOf s)))

/-- The registers RESET stores before it runs `set_ly(0)` (R260). -/
def resetRegisters (s : State) : State :=
  let r := s.cfg.resetState
  { s with
    lcdc := r.lcdc, scy := r.scy, scx := r.scx, lyc := r.lyc, wy := r.wy, wx := r.wx
    bgp := r.bgp, obp0 := r.obp0, obp1 := r.obp1, ie := r.ie }

/-- The contents of `vram`, `oam`, `spr` and `fb` become unspecified: a new epoch of free values (R260). -/
def forgetContents (s : State) : State :=
  { s with vram := [], oam := [], spr := none, fb := Vector.replicate 144 none, epoch := s.epoch + 1 }

/-- RESET (R219, R260): no response field (R243). -/
def execReset (s : State) : Result :=
  let s1 := setLy (resetRegisters s) 0
  .next ((forgetContents { s1 with mode := .hblank, winLine := 0 }).respond .none)

end Sys2Proof.Machine
end

