-- ==== Sys2Proof/Machine/Dispatch.lean ====
section
/-!
DEFINITION. The meaning of every operation (30_encoding.md R60, R63): one arm per constructor.
-/

namespace Sys2Proof.Machine

def exec (i : Instr) (s : State) : Host.Outcome State Fault Refusal :=
  match i with
  | .rdVram a => Sys2Proof.Machine.execRdVram a s
  | .wrVram a v => Sys2Proof.Machine.execWrVram a v s
  | .rdOam a => Sys2Proof.Machine.execRdOam a s
  | .wrOam a v => Sys2Proof.Machine.execWrOam a v s
  | .rdLcdc => Sys2Proof.Machine.execRdLcdc s
  | .wrLcdc v => Sys2Proof.Machine.execWrLcdc v s
  | .rdStat => Sys2Proof.Machine.execRdStat s
  | .wrStat v => Sys2Proof.Machine.execWrStat v s
  | .rdScy => Sys2Proof.Machine.execRdScy s
  | .wrScy v => Sys2Proof.Machine.execWrScy v s
  | .rdScx => Sys2Proof.Machine.execRdScx s
  | .wrScx v => Sys2Proof.Machine.execWrScx v s
  | .rdLy => Sys2Proof.Machine.execRdLy s
  | .wrLy v => Sys2Proof.Machine.execWrLy v s
  | .rdLyc => Sys2Proof.Machine.execRdLyc s
  | .wrLyc v => Sys2Proof.Machine.execWrLyc v s
  | .rdBgp => Sys2Proof.Machine.execRdBgp s
  | .wrBgp v => Sys2Proof.Machine.execWrBgp v s
  | .rdObp0 => Sys2Proof.Machine.execRdObp0 s
  | .wrObp0 v => Sys2Proof.Machine.execWrObp0 v s
  | .rdObp1 => Sys2Proof.Machine.execRdObp1 s
  | .wrObp1 v => Sys2Proof.Machine.execWrObp1 v s
  | .rdWy => Sys2Proof.Machine.execRdWy s
  | .wrWy v => Sys2Proof.Machine.execWrWy v s
  | .rdWx => Sys2Proof.Machine.execRdWx s
  | .wrWx v => Sys2Proof.Machine.execWrWx v s
  | .modeDone => Sys2Proof.Machine.execModeDone s
  | .getPixel x y => Sys2Proof.Machine.execGetPixel x y s
  | .snapshot => Sys2Proof.Machine.execSnapshot s
  | .reset => Sys2Proof.Machine.execReset s
  | .rdUnmapped a => Sys2Proof.Machine.execRdUnmapped a s
  | .wrUnmapped a v => Sys2Proof.Machine.execWrUnmapped a v s

end Sys2Proof.Machine
end

