-- ==== Sys2Proof/Machine/Step.lean ====
section
/-!
DEFINITION. One step: take the oldest command word issued, decode it (30_encoding.md R64) and apply the one meaning it
names, atomically (20_memory.md R47). With no command pending nothing changes (00_scope.md R2).
-/

namespace Sys2Proof.Machine

/-- Run one command word on the state from which it has been taken. -/
def stepWord (w : Cmd) (s : State) : Result :=
  match decode s.cfg w with
  | .ok i => exec i s
  | .error why => .refused (.reservedWord why)

/-- One step of the block. -/
def step (s : State) : Host.Outcome State Fault Refusal :=
  if s.cfg.wf then
    match s.cmds with
    | [] => .next s
    | w :: rest => stepWord w { s with cmds := rest }
  else .refused .illFormedConfig

/-- The same state with one more command word issued, to be executed first. The block takes its operations from
outside (notes/assumptions/1.md), so this is all a program needs to run. -/
def State.withFetchWord (s : State) (_nbits w : Nat) : State :=
  { s with cmds := BitVec.ofNat 32 w :: s.cmds }

end Sys2Proof.Machine
end

