-- ==== Sys2Proof/Machine/Text.lean ====
section
/-!
DEFINITION. The textual form of operations and pseudo-operations (30_encoding.md R66, R67): one line gives the list of
operations it stands for. Numbers are in C notation, `;` starts a comment.
-/

namespace Sys2Proof.Machine

/-- The value of a digit in bases up to 16. -/
def digitVal (c : Char) : Option Nat :=
  if '0' ≤ c ∧ c ≤ '9' then some (c.toNat - '0'.toNat)
  else if 'a' ≤ c ∧ c ≤ 'f' then some (c.toNat - 'a'.toNat + 10)
  else if 'A' ≤ c ∧ c ≤ 'F' then some (c.toNat - 'A'.toNat + 10)
  else none

/-- A non-empty run of digits in `base`, from the value `acc` read so far. -/
def digitsVal (base acc : Nat) : List Char → Option Nat
  | [] => some acc
  | c :: cs =>
    match digitVal c with
    | some d => if d < base then digitsVal base (base * acc + d) cs else none
    | none => none

/-- A number in C notation: hexadecimal, octal or decimal (R66). -/
def numVal : List Char → Option Nat
  | [] => none
  | ['0'] => some 0
  | '0' :: 'x' :: c :: cs => digitsVal 16 0 (c :: cs)
  | '0' :: 'X' :: c :: cs => digitsVal 16 0 (c :: cs)
  | '0' :: c :: cs => digitsVal 8 0 (c :: cs)
  | cs => digitsVal 10 0 cs

/-- A byte operand. -/
def byteVal (t : List Char) : Option Byte :=
  match numVal t with
  | some n => if n < 256 then some (BitVec.ofNat 8 n) else none
  | none => none

/-- An address operand. -/
def addrVal (t : List Char) : Option Addr :=
  match numVal t with
  | some n => if n < 65536 then some (BitVec.ofNat 16 n) else none
  | none => none

/-- The register names of R11. -/
def regOfText (t : List Char) : Option RegName :=
  match String.ofList t with
  | "LCDC" => some .lcdc
  | "STAT" => some .stat
  | "SCY" => some .scy
  | "SCX" => some .scx
  | "LY" => some .ly
  | "LYC" => some .lyc
  | "BGP" => some .bgp
  | "OBP0" => some .obp0
  | "OBP1" => some .obp1
  | "WY" => some .wy
  | "WX" => some .wx
  | _ => none

/-- Space characters of a line. -/
def isBlank (c : Char) : Bool := c == ' ' || c == '\t'

/-- The text before the comment sign. -/
def dropComment (t : List Char) : List Char := t.takeWhile (· != ';')

/-- Operands between commas, blanks dropped; no operand at all is the empty list. -/
def operandsOf (t : List Char) : List (List Char) :=
  match t.filter (!isBlank ·) with
  | [] => []
  | cs => cs.splitOn ','

/-- The instruction when it is well formed (a row form whose address is outside its row names nothing, R63). -/
def checked (c : Config) (i : Instr) : Option (List Instr) := if wellFormed c i then some [i] else none

/-- Row forms that keep an address operand, class 0 (R66). -/
def addrRow (c : Config) (f : Addr → Instr) (t : List Char) : Option (List Instr) := (addrVal t).bind fun a => checked c (f a)

/-- Row forms that keep an address operand, class 1 (R66). -/
def addrRowW (c : Config) (f : Addr → Byte → Instr) (t v : List Char) : Option (List Instr) :=
  (addrVal t).bind fun a => (byteVal v).bind fun b => checked c (f a b)

/-- Row forms of a register: the address is implied by the mnemonic (R66). -/
def regRow (c : Config) (dir reg : List Char) (ops : List (List Char)) : Option (List Instr) :=
  (regOfText reg).bind fun r =>
    match String.ofList dir, ops with
    | "RD", [] => some [rdRow c (c.regAddr.get r)]
    | "WR", [v] => (byteVal v).map fun b => [wrRow c (c.regAddr.get r) b]
    | _, _ => none

/-- All the byte operands of a list. -/
def bytesVal : List (List Char) → Option (List Byte)
  | [] => some []
  | t :: ts => (byteVal t).bind fun b => (bytesVal ts).map (b :: ·)

/-- A pseudo-operation (R67), when its operands are in range. -/
def pseudoOf (mn : String) (ops : List (List Char)) : Option Pseudo :=
  match mn, ops with
  | "WRREG", [r, v] => (regOfText r).bind fun r => (byteVal v).map (.wrreg r)
  | "RDREG", [r] => (regOfText r).map .rdreg
  | "LINE", [] => some .line
  | "VLINE", [] => some .vline
  | "FRAME", [] => some .frame
  | "LOADTILE", n :: bs =>
    (numVal n).bind fun n => (bytesVal bs).bind fun bs =>
      if h : n ≤ 383 ∧ bs.length = 16 then some (.loadTile n ⟨bs.toArray, by simp [h.2]⟩) else none
  | "FILL", [a, n, v] =>
    (numVal a).bind fun a => (numVal n).bind fun n => (byteVal v).bind fun v =>
      if a + n ≤ 65536 then some (.fill a n v) else none
  | "SPRITE", [k, y, x, t, f] =>
    (numVal k).bind fun k => (byteVal y).bind fun y => (byteVal x).bind fun x =>
      (byteVal t).bind fun t => (byteVal f).bind fun f =>
        if k ≤ 39 then some (.sprite k y x t f) else none
  | _, _ => none

/-- The operations a mnemonic and its operands stand for (R66, R67). -/
def assembleOp (c : Config) (mn : List Char) (ops : List (List Char)) : Option (List Instr) :=
  match String.ofList mn, ops with
  | "RD", [a] => (addrVal a).map fun a => [rdRow c a]
  | "WR", [a, v] => (addrVal a).bind fun a => (byteVal v).map fun b => [wrRow c a b]
  | "RD.VRAM", [a] => addrRow c .rdVram a
  | "WR.VRAM", [a, v] => addrRowW c .wrVram a v
  | "RD.OAM", [a] => addrRow c .rdOam a
  | "WR.OAM", [a, v] => addrRowW c .wrOam a v
  | "RD.UNMAPPED", [a] => addrRow c .rdUnmapped a
  | "WR.UNMAPPED", [a, v] => addrRowW c .wrUnmapped a v
  | "MODE_DONE", [] => some [.modeDone]
  | "GETPIXEL", [x, y] => (byteVal x).bind fun x => (byteVal y).map fun y => [.getPixel x y]
  | "SNAPSHOT", [] => some [.snapshot]
  | "RESET", [] => some [.reset]
  | s, _ =>
    match mn.splitOn '.' with
    | [dir, reg] => regRow c dir reg ops
    | _ => (pseudoOf s ops).map (expand c)

/-- One line of text (R66); none where it spells nothing. -/
def assemble (c : Config) (line : String) : Option (List Instr) :=
  let body := (dropComment line.toList).dropWhile isBlank
  match body.takeWhile (!isBlank ·) with
  | [] => some []
  | mn => assembleOp c mn (operandsOf (body.dropWhile (!isBlank ·)))

end Sys2Proof.Machine
end

