-- ==== Sys2Proof/Safety.lean ====
section
/-!
DEFINITION. What a good state is (10_state.md R29), in the terms claims use, with the strengthening of its fifth clause
that makes it inductive (notes/assumptions/13.md); running a list of operations; and what it means that a kind of
state is unchanged.
-/

namespace Sys2Proof.Machine

/-- The six invariants as 10_state.md R29 lists them. -/
structure State.R29 (s : State) : Prop where
  /-- 1. -/
  ly_range : s.ly.toNat ≤ 153
  /-- 2. -/
  lcd_off : s.lcdOn = false → s.ly = 0 ∧ s.mode = .hblank
  /-- 3. -/
  visible_line : s.lcdOn = true → s.mode ≠ .vblank → s.ly.toNat ≤ 143
  /-- 4. -/
  vblank_line : s.mode = .vblank → s.lcdOn = true ∧ 144 ≤ s.ly.toNat ∧ s.ly.toNat ≤ 153
  /-- 5. -/
  win_range : s.winLine.toNat ≤ 144
  /-- 6. -/
  slots : ∀ v, s.spr = some v → ∀ k : Fin 40, v[k].slot = k

/-- How many window lines can have been drawn in this frame, given where in the frame the block is (R133, R135). -/
def winBound (s : State) : Nat :=
  if s.lcdOn then
    match s.mode with
    | .oamScan => s.ly.toNat
    | .drawing | .hblank => s.ly.toNat + 1
    | .vblank => 144
  else 0

/-- The invariant every step keeps: R29, a configuration the rules cover, the enable bits inside their mask (R17),
canonical memories inside their ranges (R23, R24), a bounded window counter, and records scanned whenever the LCD is
on (R147, R262). -/
structure State.Inv (s : State) : Prop extends s.R29 where
  cfg_wf : s.cfg.wf
  ie_masked : s.ie &&& ~~~s.cfg.statWmask = 0
  win_bound : s.winLine.toNat ≤ winBound s
  scanned : s.lcdOn = true → s.spr ≠ none
  vram_wf : s.vram.wf
  vram_range : ∀ e ∈ s.vram, e.1 < 8192
  oam_wf : s.oam.wf
  oam_range : ∀ e ∈ s.oam, e.1 < 160

/-- Run operations one after the other; the first that does not answer a next state ends the run. -/
def execList : List Instr → State → Result
  | [], s => .next s
  | i :: is, s =>
    match exec i s with
    | .next t => execList is t
    | .fault r => .fault r
    | .refused r => .refused r

/-- The responses of the operations of a list, in order (R67). -/
def responses : List Instr → State → List Response
  | [], _ => []
  | i :: is, s =>
    match exec i s with
    | .next t => t.resp :: responses is t
    | .fault _ => []
    | .refused _ => []

/-! ## What stays the same -/

/-- The registers only an external writer changes, LCDC and STAT.ie among them (R248). -/
structure SameRegisters (s t : State) : Prop where
  lcdc : t.lcdc = s.lcdc
  ie : t.ie = s.ie
  scy : t.scy = s.scy
  scx : t.scx = s.scx
  lyc : t.lyc = s.lyc
  bgp : t.bgp = s.bgp
  obp0 : t.obp0 = s.obp0
  obp1 : t.obp1 = s.obp1
  wy : t.wy = s.wy
  wx : t.wx = s.wx

/-- The sequencer position and the match flag (R14, R15). -/
structure SamePosition (s t : State) : Prop where
  mode : t.mode = s.mode
  ly : t.ly = s.ly
  lycMatch : t.lycMatch = s.lycMatch
  winLine : t.winLine = s.winLine

/-- Every byte of VRAM reads as before. -/
def SameVram (s t : State) : Prop := ∀ i, vramByte t i = vramByte s i

/-- Every byte of OAM reads as before. -/
def SameOam (s t : State) : Prop := ∀ i, oamByte t i = oamByte s i

/-- Every latched record is as before. -/
def SameSprites (s t : State) : Prop := sprites t = sprites s

/-- Every row of the framebuffer is as before. -/
def SamePicture (s t : State) : Prop := ∀ y, fbRow t y = fbRow s y

/-- The configuration and the pending commands are as before. -/
structure SameInputs (s t : State) : Prop where
  cfg : t.cfg = s.cfg
  cmds : t.cmds = s.cmds

end Sys2Proof.Machine
end

