-- ==== Sys2Proof/Certificates/Slice0/Obligations.lean ====
section
/-!
DEFINITION. The statements for the provers. Rules are those of spec/; every statement holds for every configuration
unless it names one. A statement about a free value (`draw`) holds whatever the value is.
-/

open Sys2Proof Sys2Proof.Machine

/-! ## Encoding and decoding -/

/-- R61, R63, R64: for every configuration the rules cover and every well-formed instruction, with every operand value,
decoding its word gives it back. -/
def Obligations.EncodeThenDecodeGivesInstr : Prop :=
  ∀ (c : Config) (i : Instr), c.wf → wellFormed c i = true → decode c (encode c i) = .ok i

/-- R61, R63, R64: each word that decodes has one meaning: encoding what was decoded gives the word back. -/
def Obligations.DecodeThenEncodeGivesWord : Prop :=
  ∀ (c : Config) (w : Cmd) (i : Instr), c.wf → decode c w = .ok i → encode c i = w ∧ wellFormed c i = true

/-- R64 and spec/95_test_vectors.md: words written out in the spec decode to the operations it names, and the six
reserved words of B8.11 do not decode. The words rest on the spec's own encoding and default addresses (D1, D2,
notes/assumptions/4.md); which reason a reserved word is given is the model's (notes/assumptions/11.md). -/
def Obligations.ExampleWordsDecode : Prop :=
  decode Config.default 0x00FF4400 = .ok .rdLy ∧
  decode Config.default 0x10FF4091 = .ok (.wrLcdc 0x91) ∧
  decode Config.default 0x1080103C = .ok (.wrVram 0x8010 0x3C) ∧
  decode Config.default 0x10FE0810 = .ok (.wrOam 0xFE08 16) ∧
  decode Config.default 0x10FF4612 = .ok (.wrUnmapped 0xFF46 0x12) ∧
  decode Config.default 0x20000000 = .ok .modeDone ∧
  decode Config.default 0x309F8F00 = .ok (.getPixel 159 143) ∧
  decode Config.default 0x40000000 = .ok .snapshot ∧
  decode Config.default 0x50000000 = .ok .reset ∧
  decode Config.default 0x60000000 = .error (.classField 6) ∧
  decode Config.default 0x01FF4400 = .error .zeroField ∧
  decode Config.default 0x00FF4401 = .error .operandField ∧
  decode Config.default 0x20000001 = .error .operandField ∧
  decode Config.default 0x30000001 = .error .operandField ∧
  decode Config.default 0x40000100 = .error .operandField

/-- R65 (the encoding is the spec's own choice, D1): exactly the reserved words are rejected, and the model gives a
rejected word no step. The word's fields are written as quotients and remainders of its number. -/
def Obligations.ReservedWordsAreRefused : Prop :=
  (∀ (c : Config) (w : Cmd),
    (6 ≤ w.toNat / 2 ^ 28 ∨ w.toNat / 2 ^ 24 % 16 ≠ 0 ∨
      ((w.toNat / 2 ^ 28 = 0 ∨ w.toNat / 2 ^ 28 = 3) ∧ w.toNat % 2 ^ 8 ≠ 0) ∨
      ((w.toNat / 2 ^ 28 = 2 ∨ w.toNat / 2 ^ 28 = 4 ∨ w.toNat / 2 ^ 28 = 5) ∧ w.toNat % 2 ^ 24 ≠ 0)) ↔
    ∃ why, decode c w = .error why) ∧
  ∀ (s : State) (w : Cmd) (rest : List Cmd) (why : Reserved), s.cfg.wf → s.cmds = w :: rest →
    decode s.cfg w = .error why → step s = .refused (.reservedWord why)

/-- R63: for the default parameters the decoder names exactly the row of spec/opcode_table.json that the word matches,
the two fallback rows last. -/
def Obligations.OpcodeTableNamesDecodedRow : Prop :=
  ∀ w : Cmd, tableMnemonic w = ((decode Config.default w).toOption).map mnemonic

/-- R41 (D1 to D3): what a bus address selects, for every configuration the rules cover; a configuration whose ranges
meet is refused (R41, U7), and so is one whose `OAM_BASE` lies above 0xFF60, which neither R41 nor U7 names: that
refusal is the model's choice (notes/assumptions/3.md); the default configuration is covered. -/
def Obligations.AddressSelectsOneTarget : Prop :=
  (∀ (c : Config) (a : Addr), c.wf →
    (busTarget c a = .vram ↔ 0x8000 ≤ a.toNat ∧ a.toNat ≤ 0x9FFF) ∧
    (busTarget c a = .oam ↔ c.oamBase.toNat ≤ a.toNat ∧ a.toNat ≤ c.oamBase.toNat + 159) ∧
    (∀ r, busTarget c a = .reg r ↔ a = c.regAddr.get r) ∧
    (busTarget c a = .unmapped ↔ ¬ inVram a ∧ ¬ inOam c a ∧ ∀ r, a ≠ c.regAddr.get r)) ∧
  (∀ s : State, ¬ s.cfg.decodeDisjoint → step s = .refused .illFormedConfig) ∧
  Config.default.wf

/-! ## The step -/

/-- R64, R47: a step on a pending word that decodes is that instruction on the state from which the word was taken,
also for a word put in by `withFetchWord`; with no word pending the step changes nothing (R2; the queue itself is the
model's choice, notes/assumptions/1.md). -/
def Obligations.StepRunsDecodedInstr : Prop :=
  (∀ (s : State) (w : Cmd) (rest : List Cmd) (i : Instr), s.cfg.wf → s.cmds = w :: rest →
    decode s.cfg w = .ok i → step s = exec i { s with cmds := rest }) ∧
  (∀ (s : State) (w : Nat) (i : Instr), s.cfg.wf → decode s.cfg (BitVec.ofNat 32 w) = .ok i →
    step (s.withFetchWord 32 w) = exec i s) ∧
  ∀ s : State, s.cfg.wf → s.cmds = [] → step s = .next s

/-- R240: every operation, for every operand and in every state that satisfies R29, completes and leaves a defined
state. That it completes in the other states too is the model's choice (notes/assumptions/12.md), and that it never
changes the configuration and the pending commands is about the model's own fields (notes/assumptions 1 and 3). -/
def Obligations.EveryOperationCompletes : Prop :=
  ∀ (i : Instr) (s : State), ∃ t, exec i s = .next t ∧ SameInputs s t

/-! ## The invariant -/

/-- R29, R30: the state after reset is good, for every configuration the rules cover. -/
def Obligations.ResetStateIsGood : Prop :=
  State.reset.Inv ∧ ∀ c : Config, c.wf → (State.resetOf c).Inv

/-- R29 strengthened (notes/assumptions/13.md): every step from a good state leaves a good state. -/
def Obligations.StepKeepsGoodState : Prop :=
  ∀ s t : State, s.Inv → step s = .next t → t.Inv

/-- R29: the six invariants hold after RESET and after any operations that follow it, from whatever state the machine
was in. -/
def Obligations.InvariantsHoldAfterReset : Prop :=
  ∀ (s t : State) (ops : List Instr), s.cfg.wf → execList (.reset :: ops) s = .next t → t.R29

/-! ## The register bank -/

/-- R172 to R192: a read of a plain register answers the stored byte and changes nothing else; the command words are
those of the default addresses (R11), which are the spec's own choices and general knowledge (D1, D2,
notes/assumptions/4.md). -/
def Obligations.RegisterReadsAnswerStoredByte : Prop :=
  (∀ s : State,
    exec .rdLcdc s = .next { s with resp := .rdata s.lcdc } ∧
    exec .rdScy s = .next { s with resp := .rdata s.scy } ∧
    exec .rdScx s = .next { s with resp := .rdata s.scx } ∧
    exec .rdLy s = .next { s with resp := .rdata s.ly } ∧
    exec .rdLyc s = .next { s with resp := .rdata s.lyc } ∧
    exec .rdBgp s = .next { s with resp := .rdata s.bgp } ∧
    exec .rdObp0 s = .next { s with resp := .rdata s.obp0 } ∧
    exec .rdObp1 s = .next { s with resp := .rdata s.obp1 } ∧
    exec .rdWy s = .next { s with resp := .rdata s.wy } ∧
    exec .rdWx s = .next { s with resp := .rdata s.wx }) ∧
  decode Config.default 0x00FF4000 = .ok .rdLcdc ∧
  decode Config.default 0x00FF4200 = .ok .rdScy ∧
  decode Config.default 0x00FF4300 = .ok .rdScx ∧
  decode Config.default 0x00FF4400 = .ok .rdLy ∧
  decode Config.default 0x00FF4500 = .ok .rdLyc ∧
  decode Config.default 0x00FF4700 = .ok .rdBgp ∧
  decode Config.default 0x00FF4800 = .ok .rdObp0 ∧
  decode Config.default 0x00FF4900 = .ok .rdObp1 ∧
  decode Config.default 0x00FF4A00 = .ok .rdWy ∧
  decode Config.default 0x00FF4B00 = .ok .rdWx

/-- R175, R177, R183, R185, R187, R189, R191: a write of a plain register stores all 8 bits, answers `lyc_irq` 0 and
changes nothing else. -/
def Obligations.PlainRegisterWritesStoreByte : Prop :=
  ∀ (v : Byte) (s : State),
    exec (.wrScy v) s = .next { s with scy := v, resp := .lycIrq false } ∧
    exec (.wrScx v) s = .next { s with scx := v, resp := .lycIrq false } ∧
    exec (.wrBgp v) s = .next { s with bgp := v, resp := .lycIrq false } ∧
    exec (.wrObp0 v) s = .next { s with obp0 := v, resp := .lycIrq false } ∧
    exec (.wrObp1 v) s = .next { s with obp1 := v, resp := .lycIrq false } ∧
    exec (.wrWy v) s = .next { s with wy := v, resp := .lycIrq false } ∧
    exec (.wrWx v) s = .next { s with wx := v, resp := .lycIrq false }

/-- R17, R174: RD.STAT answers mode in bits 1:0, the match flag in bit 2, the enable bits of the mask above, 0
elsewhere (D8); with the default mask bit 7 reads 0. It changes nothing else. -/
def Obligations.StatReadIsAssembled : Prop :=
  ∀ s : State, s.cfg.wf → ∃ v : Byte, exec .rdStat s = .next { s with resp := .rdata v } ∧
    (∀ i : Nat, i < 8 → v.getLsbD i =
      if i < 2 then s.mode.code.getLsbD i
      else if i = 2 then s.lycMatch
      else s.ie.getLsbD i && s.cfg.statWmask.getLsbD i) ∧
    (s.cfg.statWmask = 0x78 → v.getLsbD 7 = false)

/-- R173: WR.STAT stores the bits of the mask and nothing else: mode and match keep their values, no signal is
produced; the rule's example for both masks. -/
def Obligations.StatWriteKeepsMaskedBits : Prop :=
  (∀ (v : Byte) (s : State),
    exec (.wrStat v) s = .next { s with ie := v &&& s.cfg.statWmask, resp := .lycIrq false }) ∧
  ∀ s t : State, s.mode = .oamScan → s.lycMatch = true → exec (.wrStat 0xFF) s = .next t →
    (s.cfg.statWmask = 0x78 → exec .rdStat t = .next { t with resp := .rdata 0x7E }) ∧
    (s.cfg.statWmask = 0x38 → exec .rdStat t = .next { t with resp := .rdata 0x3E })

/-- R179: WR.LY changes nothing but the response. -/
def Obligations.LyWriteIsIgnored : Prop :=
  ∀ (v : Byte) (s : State), exec (.wrLy v) s = .next { s with resp := .lycIrq false }

/-- R181 (D22): WR.LYC stores the byte and makes no comparison: the match flag keeps its old value until the next
`set_ly`, here the MODE_DONE that ends the line. -/
def Obligations.LycWriteMakesNoComparison : Prop :=
  (∀ (v : Byte) (s : State), exec (.wrLyc v) s = .next { s with lyc := v, resp := .lycIrq false }) ∧
  ∀ (v : Byte) (s t u : State), s.lcdOn = true → s.mode = .hblank → s.ly.toNat ≤ 143 →
    exec (.wrLyc v) s = .next t → exec .modeDone t = .next u →
    t.lycMatch = s.lycMatch ∧ u.lycMatch = (s.ly + 1 == v)

/-- R171, R196, R197: WR.LCDC. Without a toggle of the master enable only LCDC and perhaps the window counter change.
On to off: LY 0, compared, mode HBlank, window counter 0. Off to on: LY 0, compared, mode OAMScan, window counter 0,
records rebuilt from OAM. The response of a toggle is a free bit when the comparison fires, else 0. The spec marks D14,
D18 and D30 as its own; that the free bit is numbered by `irqDraws` is the model's choice (notes/assumptions/9.md). -/
def Obligations.LcdcWriteEffects : Prop :=
  ∀ (v : Byte) (s : State),
    (bit v s.cfg.lcdcLcdEn = s.lcdOn → exec (.wrLcdc v) s =
      .next { s with lcdc := v, winLine := if bit s.lcdc s.cfg.lcdcWinEn then s.winLine else 0,
                     resp := .lycIrq false }) ∧
    (s.lcdOn = true → bit v s.cfg.lcdcLcdEn = false → exec (.wrLcdc v) s =
      .next { s with lcdc := v, ly := 0, lycMatch := s.lyc == 0, mode := .hblank, winLine := 0,
                     resp := .lycIrq (s.lyc == 0 && bit s.ie s.cfg.lycIeBit && Config.freeIrq s.irqDraws),
                     irqDraws := if s.lyc == 0 && bit s.ie s.cfg.lycIeBit then s.irqDraws + 1 else s.irqDraws }) ∧
    (s.lcdOn = false → bit v s.cfg.lcdcLcdEn = true → exec (.wrLcdc v) s =
      .next { s with lcdc := v, ly := 0, lycMatch := s.lyc == 0, mode := .oamScan, winLine := 0,
                     spr := some (Vector.ofFn (scanSprite s)),
                     resp := .lycIrq (s.lyc == 0 && bit s.ie s.cfg.lycIeBit && Config.freeIrq s.irqDraws),
                     irqDraws := if s.lyc == 0 && bit s.ie s.cfg.lycIeBit then s.irqDraws + 1 else s.irqDraws })

/-- R134 (D29): a WR.LCDC whose old window enable bit was 0 zeroes the window counter; so disabling and then enabling
the window leaves it 0, and a write that does not toggle the LCD with the old bit 1 keeps it. -/
def Obligations.WindowEnableResetsCounter : Prop :=
  (∀ (v : Byte) (s t : State), exec (.wrLcdc v) s = .next t →
    bit s.lcdc s.cfg.lcdcWinEn = false → t.winLine = 0) ∧
  (∀ (v w : Byte) (s t u : State), exec (.wrLcdc v) s = .next t → exec (.wrLcdc w) t = .next u →
    bit v s.cfg.lcdcWinEn = false → u.winLine = 0) ∧
  ∀ (v : Byte) (s t : State), exec (.wrLcdc v) s = .next t →
    bit s.lcdc s.cfg.lcdcWinEn = true → bit v s.cfg.lcdcLcdEn = s.lcdOn → t.winLine = s.winLine

/-- R195 (D22): `set_ly` assigns LY and the match flag and returns match and the LYC interrupt enable; with LYC = 100
and the enable set, 100 fires and every other value reports false and clears the flag. -/
def Obligations.SetLyComparesAndFires : Prop :=
  (∀ (s : State) (v : Byte),
    setLy s v = { s with ly := v, lycMatch := decide (v = s.lyc) } ∧
    (setLyFires s v = true ↔ (setLy s v).lycMatch = true ∧ bit s.ie s.cfg.lycIeBit = true)) ∧
  ∀ (s : State) (v : Byte), s.lyc = 100 → bit s.ie s.cfg.lycIeBit = true →
    (setLyFires s v = true ↔ v = 100) ∧ ((setLy s v).lycMatch = true ↔ v = 100)

/-! ## The mode machine -/

/-- R211: with the LCD off MODE_DONE changes nothing and answers 0. The spec marks this as its own choice (D16,
notes/assumptions/10.md). -/
def Obligations.ModeDoneHoldsWithLcdOff : Prop :=
  ∀ s : State, s.lcdOn = false → exec .modeDone s = .next { s with resp := .lycIrq false }

/-- R213: MODE_DONE in Drawing enters HBlank and changes nothing else. -/
def Obligations.ModeDoneLeavesDrawing : Prop :=
  ∀ s : State, s.lcdOn = true → s.mode = .drawing →
    exec .modeDone s = .next { s with mode := .hblank, resp := .lycIrq false }

/-- R214, R195, R220 (the scan at the entry, by policy: D13, default in notes/assumptions/4.md): MODE_DONE in HBlank on
a visible line: LY + 1 with the comparison; line 144 enters VBlank, every other line enters OAMScan, with the records
rebuilt under the per-line policy and kept under the per-frame policy. -/
def Obligations.ModeDoneEndsVisibleLine : Prop :=
  ∀ s : State, s.lcdOn = true → s.mode = .hblank → s.ly.toNat ≤ 143 →
    (s.ly = 143 → exec .modeDone s =
      .next { s with ly := 144, lycMatch := s.lyc == 144, mode := .vblank,
                     resp := .lycIrq (s.lyc == 144 && bit s.ie s.cfg.lycIeBit) }) ∧
    (s.ly ≠ 143 → s.cfg.oamScanPolicy = .perLine → exec .modeDone s =
      .next { s with ly := s.ly + 1, lycMatch := s.lyc == s.ly + 1, mode := .oamScan,
                     spr := some (Vector.ofFn (scanSprite s)),
                     resp := .lycIrq (s.lyc == s.ly + 1 && bit s.ie s.cfg.lycIeBit) }) ∧
    (s.ly ≠ 143 → s.cfg.oamScanPolicy = .perFrame → exec .modeDone s =
      .next { s with ly := s.ly + 1, lycMatch := s.lyc == s.ly + 1, mode := .oamScan,
                     resp := .lycIrq (s.lyc == s.ly + 1 && bit s.ie s.cfg.lycIeBit) })

/-- R215, R195, R220 (the counter's reset at the wrap: D14; the scan at the entry: D13): MODE_DONE in VBlank: LY + 1
with the comparison; the wrap from 153 to 0 zeroes the window counter and enters OAMScan with a scan under both
policies. -/
def Obligations.ModeDoneEndsVBlankLine : Prop :=
  ∀ s : State, s.lcdOn = true → s.mode = .vblank →
    (153 ≤ s.ly.toNat → exec .modeDone s =
      .next { s with ly := 0, lycMatch := s.lyc == 0, mode := .oamScan, winLine := 0,
                     spr := some (Vector.ofFn (scanSprite s)),
                     resp := .lycIrq (s.lyc == 0 && bit s.ie s.cfg.lycIeBit) }) ∧
    (s.ly.toNat < 153 → exec .modeDone s =
      .next { s with ly := s.ly + 1, lycMatch := s.lyc == s.ly + 1,
                     resp := .lycIrq (s.lyc == s.ly + 1 && bit s.ie s.cfg.lycIeBit) })

/-- R212, R133 (which lines count: D15): MODE_DONE in OAMScan enters Drawing, renders row LY and no other, counts the
window line when the window is visible on it, and changes nothing else; LY is unchanged and no comparison is made. -/
def Obligations.ModeDoneRendersOneRow : Prop :=
  ∀ s : State, s.lcdOn = true → s.mode = .oamScan → s.ly.toNat ≤ 143 →
    ∃ t, exec .modeDone s = .next t ∧
      t = { s with mode := .drawing, resp := .lycIrq false, fb := t.fb,
                   winLine := if bit s.lcdc s.cfg.lcdcWinEn = true ∧ s.wy.toNat ≤ s.ly.toNat
                              then s.winLine + 1 else s.winLine } ∧
      (∀ y, y ≠ s.ly.toNat → fbRow t y = fbRow s y) ∧
      (t.fb[s.ly.toNat]?).getD none ≠ none

/-- R14: only MODE_DONE, an LCD toggle and RESET change the mode or LY. -/
def Obligations.OnlySequencerMovesPosition : Prop :=
  ∀ (i : Instr) (s t : State), exec i s = .next t → t.mode ≠ s.mode ∨ t.ly ≠ s.ly →
    (i = .modeDone ∧ s.lcdOn = true) ∨ i = .reset ∨
    ∃ v, i = .wrLcdc v ∧ bit v s.cfg.lcdcLcdEn ≠ s.lcdOn

/-- R26: the framebuffer is written only by the MODE_DONE that enters Drawing, and then only in row LY (RESET makes its
contents unspecified, R260). -/
def Obligations.OnlyRenderingWritesPicture : Prop :=
  ∀ (i : Instr) (s t : State), exec i s = .next t → i ≠ .reset →
    (¬ (i = .modeDone ∧ s.lcdOn = true ∧ s.mode = .oamScan) → SamePicture s t) ∧
    ∀ y, y ≠ s.ly.toNat → fbRow t y = fbRow s y

/-- R243 (D18): an operation answers `lyc_irq` = 1 only when it assigned LY, LY now equals LYC and the enable bit is
set: a MODE_DONE that ends a line, or a WR.LCDC that toggles the master enable. -/
def Obligations.LycSignalOnlyWhenLyAssigned : Prop :=
  ∀ (i : Instr) (s t : State), exec i s = .next t → t.resp = .lycIrq true →
    bit s.ie s.cfg.lycIeBit = true ∧ t.ly = s.lyc ∧ t.lycMatch = true ∧
    ((i = .modeDone ∧ s.lcdOn = true ∧ (s.mode = .hblank ∨ s.mode = .vblank)) ∨
      ∃ v, i = .wrLcdc v ∧ bit v s.cfg.lcdcLcdEn ≠ s.lcdOn)

/-- R67: LINE, three MODE_DONE from OAMScan of a visible line, ends in OAMScan of the next line or in VBlank with LY
144; only the third answer can be 1. -/
def Obligations.LineAdvancesOneScanline : Prop :=
  ∀ s : State, s.lcdOn = true → s.mode = .oamScan → s.ly.toNat ≤ 143 →
    ∃ t, execList (expand s.cfg .line) s = .next t ∧ t.ly = s.ly + 1 ∧
      t.mode = (if s.ly = 143 then .vblank else .oamScan) ∧ SameRegisters s t ∧ SameVram s t ∧ SameOam s t ∧
      responses (expand s.cfg .line) s =
        [.lycIrq false, .lycIrq false, .lycIrq (s.lyc == s.ly + 1 && bit s.ie s.cfg.lycIeBit)]

/-- R67, R210: FRAME, 442 MODE_DONE from OAMScan of line 0, renders all 144 rows and returns to OAMScan of line 0 with
the window counter 0. -/
def Obligations.FrameRendersAllRowsAndReturns : Prop :=
  ∀ s : State, s.lcdOn = true → s.mode = .oamScan → s.ly = 0 →
    ∃ t, execList (expand s.cfg .frame) s = .next t ∧ t.mode = .oamScan ∧ t.ly = 0 ∧ t.winLine = 0 ∧
      (∀ y : Fin 144, t.fb[y] ≠ none) ∧ SameRegisters s t ∧ SameVram s t ∧ SameOam s t ∧ SameInputs s t ∧
      (responses (expand s.cfg .frame) s).length = 442

/-- R243 (derived there from R214, R215): in a frame with the enable bit set, the signal is reported exactly once when
LYC is in 0..153, by the MODE_DONE that makes LY equal LYC (for LYC 0 the last one, the wrap from 153), and never when
LYC is above 153 (R20). -/
def Obligations.LycSignalOncePerFrame : Prop :=
  ∀ s : State, s.lcdOn = true → s.mode = .oamScan → s.ly = 0 → bit s.ie s.cfg.lycIeBit = true →
    ∀ k : Nat, k < 442 →
      (responses (expand s.cfg .frame) s)[k]? = some (.lycIrq (decide (
        (s.lyc = 0 ∧ k = 441) ∨
        (1 ≤ s.lyc.toNat ∧ s.lyc.toNat ≤ 144 ∧ k + 1 = 3 * s.lyc.toNat) ∨
        (145 ≤ s.lyc.toNat ∧ s.lyc.toNat ≤ 153 ∧ k + 1 = 288 + s.lyc.toNat))))

/-! ## Rendering -/

/-- R120, R121, R122, R100 (D5, D10): with no window and no sprite on the line, the MODE_DONE that renders it leaves
every pixel of the row `LIGHTEST` when the background is disabled, else the palette's shade of the tile pixel at the
scrolled, wrapped map position. -/
def Obligations.BackgroundPixelFollowsTileMap : Prop :=
  ∀ s : State, s.lcdOn = true → s.mode = .oamScan → s.ly.toNat ≤ 143 →
    ¬ (bit s.lcdc s.cfg.lcdcWinEn = true ∧ s.wy.toNat ≤ s.ly.toNat) →
    (∀ k : Fin 40, ¬ (sprites s)[k].covers (spriteHeight s) s.ly.toNat) →
    ∃ t, exec .modeDone s = .next t ∧ ∀ sx : Nat, sx < 160 →
      (bit s.lcdc s.cfg.lcdcBgEn = false → pixelAt t sx s.ly.toNat = s.cfg.lightest) ∧
      (bit s.lcdc s.cfg.lcdcBgEn = true →
        ∃ (row : Vector Shade 8) (raw : Shade),
          (getTileFromMap s (((s.scx.toNat + sx) % 256 / 8 : Nat) : Int) (((s.scy.toNat + s.ly.toNat) % 256 / 8 : Nat) : Int)
            (bit s.lcdc s.cfg.lcdcBgMap) (!bit s.lcdc s.cfg.lcdcTileData))[(s.scy.toNat + s.ly.toNat) % 256 % 8]? =
              some row ∧
          row[(s.scx.toNat + sx) % 256 % 8]? = some raw ∧
          pixelAt t sx s.ly.toNat = (s.bgp >>> (2 * raw.toNat)).setWidth 2)

/-- R131, R132, R133, R137 (D6, D15): with the window visible and no sprite on the line, a column at or right of `WX -
7` shows the window's tile pixel (row `win_line`, its own map, not scrolled), a column left of it is as if the window
were not there, and the counter advances by one whatever WX is. -/
def Obligations.WindowPixelFollowsLineCounter : Prop :=
  ∀ s : State, s.lcdOn = true → s.mode = .oamScan → s.ly.toNat ≤ 143 →
    bit s.lcdc s.cfg.lcdcWinEn = true → s.wy.toNat ≤ s.ly.toNat →
    (∀ k : Fin 40, ¬ (sprites s)[k].covers (spriteHeight s) s.ly.toNat) →
    ∃ t u, exec .modeDone s = .next t ∧ exec .modeDone { s with wy := 255 } = .next u ∧
      t.winLine = s.winLine + 1 ∧
      ∀ sx : Nat, sx < 160 →
        (sx + 7 < s.wx.toNat → pixelAt t sx s.ly.toNat = pixelAt u sx s.ly.toNat) ∧
        (s.wx.toNat ≤ sx + 7 → ∃ (row : Vector Shade 8) (raw : Shade),
          (getTileFromMap s (((sx + 7 - s.wx.toNat) / 8 : Nat) : Int) ((s.winLine.toNat / 8 : Nat) : Int)
            (bit s.lcdc s.cfg.lcdcWinMap) (!bit s.lcdc s.cfg.lcdcTileData))[s.winLine.toNat % 8]? = some row ∧
          row[(sx + 7 - s.wx.toNat) % 8]? = some raw ∧
          pixelAt t sx s.ly.toNat = (s.bgp >>> (2 * raw.toNat)).setWidth 2)

/-- R152, R156, R157, R216 (D7): the sprites are drawn last, over the line as it is without them, the kept ones in
reverse of the priority order, unless the configured enable bit gates the layer. -/
def Obligations.SpritesDrawnLastInReversePriority : Prop :=
  ∀ (s : State) (none40 : Vector Sprite 40), s.lcdOn = true → s.mode = .oamScan → s.ly.toNat ≤ 143 →
    (∀ k : Fin 40, ¬ none40[k].covers (spriteHeight s) s.ly.toNat) →
    ∃ t u, exec .modeDone s = .next t ∧ exec .modeDone { s with spr := some none40 } = .next u ∧
      fbRow t s.ly.toNat =
        (if (match s.cfg.objEnableBit with | some b => bit s.lcdc b | none => true) = true
         then (priorityList s s.ly.toNat).reverse.foldl (drawSprite s s.ly.toNat) (fbRow u s.ly.toNat)
         else fbRow u s.ly.toNat)

/-- R153, R154, R155 (D12, D26): what one sprite does to one pixel of the row: row and tile with vertical flip before
the halves, column with horizontal flip, raw 0 transparent, the background-priority test on the shade now in the row,
the palette register of the record; a column the sprite does not cover is untouched. -/
def Obligations.SpritePixelRule : Prop :=
  ∀ (s : State) (ly : Nat) (row : Row) (sp : Sprite) (sx : Fin 160), sp.covers (spriteHeight s) ly →
    (¬ (sp.x ≤ (sx.val : Int) ∧ (sx.val : Int) < sp.x + 8) → (drawSprite s ly row sp)[sx] = row[sx]) ∧
    (sp.x ≤ (sx.val : Int) → (sx.val : Int) < sp.x + 8 →
      ∃ (h r : Int) (col tc : Nat) (t : Byte) (a : Int) (raw : Nat),
        h = (if bit s.lcdc s.cfg.lcdcObjSize then 16 else 8) ∧
        r = (if sp.yFlip then h - 1 - (ly - sp.y) else ly - sp.y) ∧
        (col : Int) = sx.val - sp.x ∧
        tc = (if sp.xFlip then 7 - col else col) ∧
        t = (if h = 16 then (if r < 8 then sp.tile &&& 0xFE else sp.tile ||| 0x01) else sp.tile) ∧
        a = (s.cfg.tileBaseUnsigned.toNat : Int) + 16 * (t.toNat : Int) +
          2 * (if h = 16 ∧ 8 ≤ r then r - 8 else r) ∧
        raw = ((vramRead s a).getLsbD (7 - tc)).toNat + 2 * ((vramRead s (a + 1)).getLsbD (7 - tc)).toNat ∧
        (drawSprite s ly row sp)[sx] =
          (if raw = 0 then row[sx]
           else if sp.bgPrio = true ∧ row[sx] ≠ s.cfg.lightest then row[sx]
           else ((if sp.pal then s.obp1 else s.obp0) >>> (2 * raw)).setWidth 2))

/-- R149, R150, R151: when the slots are distinct, the kept sprites are candidates in ascending (X, slot) order, at
most ten of them, and every candidate left out comes after every one kept. -/
def Obligations.PriorityListIsLowestTen : Prop :=
  ∀ (s : State) (ly : Nat), (∀ k : Fin 40, (sprites s)[k].slot = k) →
    (∀ k : Fin 40, (sprites s)[k] ∈ candidates s ly ↔
      (sprites s)[k].y ≤ ly ∧ ly ≤ (sprites s)[k].y + (if bit s.lcdc s.cfg.lcdcObjSize then 16 else 8) - 1) ∧
    (∀ a ∈ candidates s ly, ∃ k : Fin 40, a = (sprites s)[k]) ∧
    (priorityList s ly).length = min 10 (candidates s ly).length ∧
    (priorityList s ly).Pairwise (fun a b => a.x < b.x ∨ (a.x = b.x ∧ a.slot < b.slot)) ∧
    (∀ a ∈ priorityList s ly, a ∈ candidates s ly) ∧
    ∀ a ∈ priorityList s ly, ∀ b ∈ candidates s ly, b ∉ priorityList s ly →
      a.x < b.x ∨ (a.x = b.x ∧ a.slot < b.slot)

/-- R113, R159: drawing a sprite whose raw colours on the line are all 0 leaves the row as it was, whatever its
palette. -/
def Obligations.TransparentSpriteLeavesRow : Prop :=
  ∀ (s : State) (ly : Nat) (row : Row) (sp : Sprite),
    (∀ col : Nat, col < 8 → spriteRaw s sp ly col = 0) → drawSprite s ly row sp = row

/-- R150, R152: a kept sprite without the background-priority flag whose pixel is not transparent shows at that column
when every sprite before it in the priority order does not cover the column or is transparent there. -/
def Obligations.HighestPrioritySpriteShows : Prop :=
  ∀ (s : State) (ly : Nat) (row : Row) (before after : List Sprite) (sp : Sprite) (sx : Fin 160),
    priorityList s ly = before ++ sp :: after →
    sp.bgPrio = false → sp.x ≤ (sx.val : Int) → (sx.val : Int) < sp.x + 8 →
    spriteRaw s sp ly ((sx.val : Int) - sp.x).toNat ≠ 0 →
    (∀ q ∈ before, q.x ≤ (sx.val : Int) → (sx.val : Int) < q.x + 8 →
      spriteRaw s q ly ((sx.val : Int) - q.x).toNat = 0) →
    (spriteLayer s ly row)[sx] =
      ((if sp.pal then s.obp1 else s.obp0) >>> (2 * (spriteRaw s sp ly ((sx.val : Int) - sp.x).toNat).toNat)).setWidth 2

/-- R145, R25: the scan rebuilds all forty records from the OAM bytes, on integers without wrap, and changes nothing
else; the rule's two examples (D9). -/
def Obligations.OamScanRebuildsRecords : Prop :=
  (∀ s : State, oamScan s = { s with spr := (oamScan s).spr } ∧ ∀ k : Fin 40,
    (sprites (oamScan s))[k].y = ((oamByte s (4 * k.val)).toNat : Int) - 16 ∧
    (sprites (oamScan s))[k].x = ((oamByte s (4 * k.val + 1)).toNat : Int) - 8 ∧
    (sprites (oamScan s))[k].tile = oamByte s (4 * k.val + 2) ∧
    (sprites (oamScan s))[k].bgPrio = bit (oamByte s (4 * k.val + 3)) s.cfg.oamfBgPrio ∧
    (sprites (oamScan s))[k].yFlip = bit (oamByte s (4 * k.val + 3)) s.cfg.oamfYFlip ∧
    (sprites (oamScan s))[k].xFlip = bit (oamByte s (4 * k.val + 3)) s.cfg.oamfXFlip ∧
    (sprites (oamScan s))[k].pal = bit (oamByte s (4 * k.val + 3)) s.cfg.oamfPalette ∧
    (sprites (oamScan s))[k].slot = k) ∧
  spriteOf Config.default 0 0x10 0x08 0x01 0x00 = ⟨0, 0, 1, false, false, false, false, 0⟩ ∧
  spriteOf Config.default 0 0x00 0x00 0x05 0xF0 = ⟨-16, -8, 5, true, true, true, true, 0⟩

/-! ## Memories and the bus -/

/-- R94, R95: RD.VRAM answers the byte at the address and changes nothing else; WR.VRAM changes that byte of VRAM and
nothing else. -/
def Obligations.VramReadAndWrite : Prop :=
  ∀ (s : State) (a : Addr), 0x8000 ≤ a.toNat → a.toNat ≤ 0x9FFF →
    exec (.rdVram a) s = .next { s with resp := .rdata (vramByte s (a.toNat - 0x8000)) } ∧
    ∀ v : Byte, ∃ t, exec (.wrVram a v) s = .next t ∧ t = { s with vram := t.vram, resp := .lycIrq false } ∧
      ∀ i, vramByte t i = if i = a.toNat - 0x8000 then v else vramByte s i

/-- R96, R97, R52: RD.OAM answers the raw byte; WR.OAM changes that byte of OAM and nothing else, the latched records
included. -/
def Obligations.OamReadAndWrite : Prop :=
  ∀ (s : State) (a : Addr), s.cfg.oamBase.toNat ≤ a.toNat → a.toNat ≤ s.cfg.oamBase.toNat + 159 →
    exec (.rdOam a) s = .next { s with resp := .rdata (oamByte s (a.toNat - s.cfg.oamBase.toNat)) } ∧
    ∀ v : Byte, ∃ t, exec (.wrOam a v) s = .next t ∧ t = { s with oam := t.oam, resp := .lycIrq false } ∧
      sprites t = sprites s ∧
      ∀ i, oamByte t i = if i = a.toNat - s.cfg.oamBase.toNat then v else oamByte s i

/-- R193, R194 (the spec's own choice, D19): an unmapped read answers 0xFF, an unmapped write changes nothing. -/
def Obligations.UnmappedReadAndWrite : Prop :=
  ∀ (s : State) (a : Addr) (v : Byte),
    exec (.rdUnmapped a) s = .next { s with resp := .rdata 0xFF } ∧
    exec (.wrUnmapped a v) s = .next { s with resp := .lycIrq false }

/-- R43, R44 (D19): in every configuration the rules cover, the RD row of an address answers `MemRead` of it and
changes nothing else, and the WR row is `MemWrite`. -/
def Obligations.BusRowsAreMemReadAndMemWrite : Prop :=
  ∀ (s : State) (a : Addr) (v : Byte), s.cfg.wf →
    exec (rdRow s.cfg a) s = .next { s with resp := .rdata (memRead s a) } ∧
    exec (wrRow s.cfg a v) s = memWrite s a v

/-- R43, R44: after a bus write to a VRAM or OAM address, a bus read of it answers the byte written, and a read of
every other VRAM or OAM address answers what it did before. -/
def Obligations.ReadAfterWriteOnBus : Prop :=
  ∀ (s : State) (a : Addr) (v : Byte), s.cfg.wf → inVram a ∨ inOam s.cfg a →
    ∃ t, exec (wrRow s.cfg a v) s = .next t ∧
      ∀ b : Addr, inVram b ∨ inOam s.cfg b →
        exec (rdRow s.cfg b) t = .next { t with resp := .rdata (if b = a then v else memRead s b) }

/-- R248: what an external writer may change: never the framebuffer; LY, the mode, the match flag, the window counter
and the latched records only through WR.LCDC, and then only to the values its side effects force. -/
def Obligations.ExternalWriterLimits : Prop :=
  ∀ (s t : State) (a : Addr) (v : Byte), s.cfg.wf → exec (wrRow s.cfg a v) s = .next t →
    SamePicture s t ∧ SameInputs s t ∧
    (a ≠ s.cfg.regAddr.lcdc → SamePosition s t ∧ SameSprites s t) ∧
    (a = s.cfg.regAddr.lcdc →
      (t.ly = s.ly ∨ t.ly = 0) ∧ (t.mode = s.mode ∨ t.mode = .hblank ∨ t.mode = .oamScan) ∧
      (t.lycMatch = s.lycMatch ∨ t.lycMatch = (s.lyc == 0)) ∧
      (sprites t = sprites s ∨ sprites t = sprites (oamScan s)) ∧
      (t.winLine = s.winLine ∨ t.winLine = 0) ∧ SameVram s t ∧ SameOam s t)

/-- R52, R263: rendering a line does not read OAM: with any other OAM contents it gives the same result. -/
def Obligations.RenderingIgnoresOamContents : Prop :=
  ∀ (s : State) (m : Memory), s.mode = .oamScan →
    ∃ t, exec .modeDone s = .next t ∧ exec .modeDone { s with oam := m } = .next { t with oam := m }

/-- R260, R262 (U4): the contents of the latched records while the LCD is off cannot be observed: no operations tell
two machines apart that differ only in them. -/
def Obligations.LatchedRecordsHiddenWhileLcdOff : Prop :=
  ∀ (s : State) (v w : Option (Vector Sprite 40)) (ops : List Instr), s.lcdOn = false →
    responses ops { s with spr := v } = responses ops { s with spr := w }

/-! ## Pixel output and reset -/

/-- R217 (off the screen: D20): GETPIXEL answers the shade in the framebuffer on the screen and 0 off it, and changes
nothing else. -/
def Obligations.GetPixelReadsFramebuffer : Prop :=
  ∀ (s : State) (x y : Byte),
    (x.toNat ≤ 159 → y.toNat ≤ 143 → ∃ p, (fbRow s y.toNat)[x.toNat]? = some p ∧
      exec (.getPixel x y) s = .next { s with resp := .px p }) ∧
    (¬ (x.toNat ≤ 159 ∧ y.toNat ≤ 143) → exec (.getPixel x y) s = .next { s with resp := .px 0 })

/-- R218 (D34): SNAPSHOT answers the whole framebuffer, rows first, and changes nothing else; each entry is what
GETPIXEL answers. -/
def Obligations.SnapshotCopiesFramebuffer : Prop :=
  ∀ s : State, ∃ f : Frame, exec .snapshot s = .next { s with resp := .frame f } ∧
    (∀ y : Fin 144, f[y] = fbRow s y.val) ∧
    ∀ (x : Fin 160) (y : Fin 144),
      exec (.getPixel (BitVec.ofNat 8 x.val) (BitVec.ofNat 8 y.val)) s = .next { s with resp := .px f[y][x] }

/-- R219, R260: RESET, for the register values of R260: LCD off, every register 0, match 1, STAT reads 0x04, window
counter 0, and the contents of VRAM, OAM, records and framebuffer fresh free values; no response. The values are the
spec's own choice (D17, notes/assumptions/5.md). The model's choices: `epoch` numbers the free contents
(notes/assumptions 6, 7 and 8), and RESET keeps the queue and the configuration and leaves `Response.none`
(notes/assumptions 1 and 15). -/
def Obligations.ResetForcesStartState : Prop :=
  ∀ s : State, s.cfg.resetState = .zero →
    ∃ t, exec .reset s = .next t ∧
      t.lcdc = 0 ∧ t.scy = 0 ∧ t.scx = 0 ∧ t.lyc = 0 ∧ t.wy = 0 ∧ t.wx = 0 ∧ t.bgp = 0 ∧ t.obp0 = 0 ∧ t.obp1 = 0 ∧
      t.ie = 0 ∧ t.ly = 0 ∧ t.lycMatch = true ∧ t.mode = .hblank ∧ t.winLine = 0 ∧ statRead t = 0x04 ∧
      t.resp = .none ∧ SameInputs s t ∧
      (∀ i, vramByte t i = Config.freeByte .vram (s.epoch + 1) i) ∧
      (∀ i, oamByte t i = Config.freeByte .oam (s.epoch + 1) i) ∧
      (∀ (y : Fin 144) (x : Fin 160), (fbRow t y.val)[x] = Config.freeShade (s.epoch + 1) y.val x.val) ∧
      ∀ k : Fin 40, (sprites t)[k] = freeSprite s.cfg (s.epoch + 1) k

/-! ## The pure functions -/

/-- R81, R82: decoding a tile: pixel (r, c) is bit `7 - c` of byte `2r` plus twice bit `7 - c` of byte `2r + 1`, as
numbers. -/
def Obligations.TileDecodeTakesPlaneBits : Prop :=
  ∀ (b : Vector Byte 16) (r c : Fin 8), ∃ lo hi : Byte, b[2 * r.val]? = some lo ∧ b[2 * r.val + 1]? = some hi ∧
    ((decodeTile b)[r][c]).toNat = lo.toNat / 2 ^ (7 - c.val) % 2 + 2 * (hi.toNat / 2 ^ (7 - c.val) % 2) ∧
    (decodeTile b)[r][c] = tileRowPixel lo hi c.val

/-- R83, R84: encoding and decoding undo each other; cells above 3 come back as 3. -/
def Obligations.TileCodecRoundTrip : Prop :=
  (∀ (t : Grid) (r c : Fin 8), ((decodeTile (encodeTile t))[r][c]).toNat = min t[r][c] 3) ∧
  ∀ b : Vector Byte 16, encodeTile (decodeTile b).toGrid = b

/-- R98, R102 (bases: D4): tile addresses in the two views, for every configuration the rules cover: all sixteen bytes
lie in VRAM; and when the signed base lies 0x1000 above the unsigned one, indices from 0x80 on are the same tile in
both views and the others differ by 0x1000. -/
def Obligations.TileViewsAlias : Prop :=
  ∀ (c : Config) (idx : Byte), c.wf →
    (∀ signed : Bool, 0x8000 ≤ tileAddress c idx signed ∧ tileAddress c idx signed + 15 ≤ 0x9FFF) ∧
    tileAddress c idx false = c.tileBaseUnsigned.toNat + 16 * (idx.toNat : Int) ∧
    tileAddress c idx true =
      c.tileBaseSigned.toNat + 16 * (if idx.toNat < 128 then (idx.toNat : Int) else (idx.toNat : Int) - 256) ∧
    (c.tileBaseSigned.toNat = c.tileBaseUnsigned.toNat + 0x1000 →
      (128 ≤ idx.toNat → tileAddress c idx true = tileAddress c idx false) ∧
      (idx.toNat < 128 → tileAddress c idx true = tileAddress c idx false + 0x1000))

/-- R99 (D23): the tile index at a map position, and index 0 out of range; in range the address is inside VRAM, so the
byte is a byte of VRAM. -/
def Obligations.TileMapEntryReadsMapOrZero : Prop :=
  ∀ (s : State) (x y : Int) (useMapB : Bool), s.cfg.wf →
    (0 ≤ x → x ≤ 31 → 0 ≤ y → y ≤ 31 → tileMapEntry s x y useMapB =
      vramByte s ((if useMapB then s.cfg.mapBBase.toNat else s.cfg.mapABase.toNat) - 0x8000 + 32 * y.toNat + x.toNat)) ∧
    (¬ (0 ≤ x ∧ x ≤ 31 ∧ 0 ≤ y ∧ y ≤ 31) → tileMapEntry s x y useMapB = 0)

/-- R100, R101: the three-byte form of a map pixel is the pixel of the whole decoded tile. -/
def Obligations.MapPixelIsDecodedTilePixel : Prop :=
  ∀ (s : State) (mapX mapY : Int) (col row : Fin 8) (useMapB signed : Bool),
    mapPixel s mapX mapY col.val row.val useMapB signed = (getTileFromMap s mapX mapY useMapB signed)[row][col]

/-- R110, R111: the palette fields as numbers, the clamp, and the composed form the renderers use. -/
def Obligations.PaletteFieldsAndClamp : Prop :=
  ∀ p : Byte,
    (∀ i : Fin 4, ((decodePalette p)[i]).toNat = p.toNat / 4 ^ i.val % 4) ∧
    (∀ raw : Nat, 3 < raw → applyPalette raw (decodePalette p) = applyPalette 3 (decodePalette p)) ∧
    ∀ raw : Shade, applyPalette raw.toNat (decodePalette p) = shade raw p ∧
      (shade raw p).toNat = p.toNat / 4 ^ raw.toNat % 4

/-- R114: the display colour is the table entry, an invalid index clamped to the darkest, entry 3 (D10), and the
darkest index of a configuration the rules cover is 3 (notes/assumptions/18.md). -/
def Obligations.DisplayColorClampsToDarkest : Prop :=
  ∀ (c : Config) (final : Nat), (c.wf → c.darkest = 3) ∧
    some (toDisplayColor c final .green) = c.rgbTable.green[min final 3]? ∧
    some (toDisplayColor c final .grayscale) = c.rgbTable.grayscale[min final 3]?

/-! ## End to end -/

/-- spec/95_test_vectors.md T9, generalised (R67, R120, R216): when every entry of the background's map is one tile,
that tile is uniform in one raw colour, the window is disabled and no sprite is on any line, neither as latched now nor
as the OAM bytes give it at a later scan, a whole frame leaves every pixel of the screen at the palette's shade of that
colour, whatever the scroll registers hold. -/
def Obligations.UniformMapFillsScreen : Prop :=
  ∀ (s : State) (idx : Byte) (raw : Shade), s.cfg.wf → s.lcdOn = true → s.mode = .oamScan → s.ly = 0 →
    bit s.lcdc s.cfg.lcdcBgEn = true → bit s.lcdc s.cfg.lcdcWinEn = false →
    (∀ x y : Nat, x < 32 → y < 32 → tileMapEntry s x y (bit s.lcdc s.cfg.lcdcBgMap) = idx) →
    (∀ r c : Fin 8, (decodeTile (Vector.ofFn fun i =>
      vramRead s (tileAddress s.cfg idx (!bit s.lcdc s.cfg.lcdcTileData) + i.val)))[r][c] = raw) →
    (∀ (k : Fin 40) (ly : Nat), ly < 144 → ¬ (sprites s)[k].covers (spriteHeight s) ly) →
    (∀ (k : Fin 40) (ly : Nat), ly < 144 → ¬ (scanSprite s k).covers (spriteHeight s) ly) →
    ∃ t, execList (expand s.cfg .frame) s = .next t ∧
      ∀ x y : Nat, x < 160 → y < 144 → pixelAt t x y = (s.bgp >>> (2 * raw.toNat)).setWidth 2
end

