-- ==== Sys2Proof/Laws/State.lean ====
section
/-!
SUPPORT. One lemma per field per update: what each shared operation of Machine/ does to each field of State, so that no
later proof unfolds a record update.
-/

namespace Sys2Proof.Machine

/-! ## `respond` -/

@[simp] theorem respond_lcdc (s : State) (r : Response) : (s.respond r).lcdc = s.lcdc := rfl
@[simp] theorem respond_mode (s : State) (r : Response) : (s.respond r).mode = s.mode := rfl
@[simp] theorem respond_lycMatch (s : State) (r : Response) : (s.respond r).lycMatch = s.lycMatch := rfl
@[simp] theorem respond_ie (s : State) (r : Response) : (s.respond r).ie = s.ie := rfl
@[simp] theorem respond_scy (s : State) (r : Response) : (s.respond r).scy = s.scy := rfl
@[simp] theorem respond_scx (s : State) (r : Response) : (s.respond r).scx = s.scx := rfl
@[simp] theorem respond_ly (s : State) (r : Response) : (s.respond r).ly = s.ly := rfl
@[simp] theorem respond_lyc (s : State) (r : Response) : (s.respond r).lyc = s.lyc := rfl
@[simp] theorem respond_bgp (s : State) (r : Response) : (s.respond r).bgp = s.bgp := rfl
@[simp] theorem respond_obp0 (s : State) (r : Response) : (s.respond r).obp0 = s.obp0 := rfl
@[simp] theorem respond_obp1 (s : State) (r : Response) : (s.respond r).obp1 = s.obp1 := rfl
@[simp] theorem respond_wy (s : State) (r : Response) : (s.respond r).wy = s.wy := rfl
@[simp] theorem respond_wx (s : State) (r : Response) : (s.respond r).wx = s.wx := rfl
@[simp] theorem respond_winLine (s : State) (r : Response) : (s.respond r).winLine = s.winLine := rfl
@[simp] theorem respond_vram (s : State) (r : Response) : (s.respond r).vram = s.vram := rfl
@[simp] theorem respond_oam (s : State) (r : Response) : (s.respond r).oam = s.oam := rfl
@[simp] theorem respond_spr (s : State) (r : Response) : (s.respond r).spr = s.spr := rfl
@[simp] theorem respond_fb (s : State) (r : Response) : (s.respond r).fb = s.fb := rfl
@[simp] theorem respond_cfg (s : State) (r : Response) : (s.respond r).cfg = s.cfg := rfl
@[simp] theorem respond_cmds (s : State) (r : Response) : (s.respond r).cmds = s.cmds := rfl
@[simp] theorem respond_resp (s : State) (r : Response) : (s.respond r).resp = r := rfl
@[simp] theorem respond_epoch (s : State) (r : Response) : (s.respond r).epoch = s.epoch := rfl
@[simp] theorem respond_irqDraws (s : State) (r : Response) : (s.respond r).irqDraws = s.irqDraws := rfl

/-! ## `setLy` -/

@[simp] theorem setLy_lcdc (s : State) (v : Byte) : (setLy s v).lcdc = s.lcdc := rfl
@[simp] theorem setLy_mode (s : State) (v : Byte) : (setLy s v).mode = s.mode := rfl
@[simp] theorem setLy_lycMatch (s : State) (v : Byte) : (setLy s v).lycMatch = (v == s.lyc) := rfl
@[simp] theorem setLy_ie (s : State) (v : Byte) : (setLy s v).ie = s.ie := rfl
@[simp] theorem setLy_scy (s : State) (v : Byte) : (setLy s v).scy = s.scy := rfl
@[simp] theorem setLy_scx (s : State) (v : Byte) : (setLy s v).scx = s.scx := rfl
@[simp] theorem setLy_ly (s : State) (v : Byte) : (setLy s v).ly = v := rfl
@[simp] theorem setLy_lyc (s : State) (v : Byte) : (setLy s v).lyc = s.lyc := rfl
@[simp] theorem setLy_bgp (s : State) (v : Byte) : (setLy s v).bgp = s.bgp := rfl
@[simp] theorem setLy_obp0 (s : State) (v : Byte) : (setLy s v).obp0 = s.obp0 := rfl
@[simp] theorem setLy_obp1 (s : State) (v : Byte) : (setLy s v).obp1 = s.obp1 := rfl
@[simp] theorem setLy_wy (s : State) (v : Byte) : (setLy s v).wy = s.wy := rfl
@[simp] theorem setLy_wx (s : State) (v : Byte) : (setLy s v).wx = s.wx := rfl
@[simp] theorem setLy_winLine (s : State) (v : Byte) : (setLy s v).winLine = s.winLine := rfl
@[simp] theorem setLy_vram (s : State) (v : Byte) : (setLy s v).vram = s.vram := rfl
@[simp] theorem setLy_oam (s : State) (v : Byte) : (setLy s v).oam = s.oam := rfl
@[simp] theorem setLy_spr (s : State) (v : Byte) : (setLy s v).spr = s.spr := rfl
@[simp] theorem setLy_fb (s : State) (v : Byte) : (setLy s v).fb = s.fb := rfl
@[simp] theorem setLy_cfg (s : State) (v : Byte) : (setLy s v).cfg = s.cfg := rfl
@[simp] theorem setLy_cmds (s : State) (v : Byte) : (setLy s v).cmds = s.cmds := rfl
@[simp] theorem setLy_resp (s : State) (v : Byte) : (setLy s v).resp = s.resp := rfl
@[simp] theorem setLy_epoch (s : State) (v : Byte) : (setLy s v).epoch = s.epoch := rfl
@[simp] theorem setLy_irqDraws (s : State) (v : Byte) : (setLy s v).irqDraws = s.irqDraws := rfl

/-! ## `setFbRow` -/

@[simp] theorem setFbRow_lcdc (s : State) (y : Nat) (r : Row) : (setFbRow s y r).lcdc = s.lcdc := rfl
@[simp] theorem setFbRow_mode (s : State) (y : Nat) (r : Row) : (setFbRow s y r).mode = s.mode := rfl
@[simp] theorem setFbRow_lycMatch (s : State) (y : Nat) (r : Row) : (setFbRow s y r).lycMatch = s.lycMatch := rfl
@[simp] theorem setFbRow_ie (s : State) (y : Nat) (r : Row) : (setFbRow s y r).ie = s.ie := rfl
@[simp] theorem setFbRow_scy (s : State) (y : Nat) (r : Row) : (setFbRow s y r).scy = s.scy := rfl
@[simp] theorem setFbRow_scx (s : State) (y : Nat) (r : Row) : (setFbRow s y r).scx = s.scx := rfl
@[simp] theorem setFbRow_ly (s : State) (y : Nat) (r : Row) : (setFbRow s y r).ly = s.ly := rfl
@[simp] theorem setFbRow_lyc (s : State) (y : Nat) (r : Row) : (setFbRow s y r).lyc = s.lyc := rfl
@[simp] theorem setFbRow_bgp (s : State) (y : Nat) (r : Row) : (setFbRow s y r).bgp = s.bgp := rfl
@[simp] theorem setFbRow_obp0 (s : State) (y : Nat) (r : Row) : (setFbRow s y r).obp0 = s.obp0 := rfl
@[simp] theorem setFbRow_obp1 (s : State) (y : Nat) (r : Row) : (setFbRow s y r).obp1 = s.obp1 := rfl
@[simp] theorem setFbRow_wy (s : State) (y : Nat) (r : Row) : (setFbRow s y r).wy = s.wy := rfl
@[simp] theorem setFbRow_wx (s : State) (y : Nat) (r : Row) : (setFbRow s y r).wx = s.wx := rfl
@[simp] theorem setFbRow_winLine (s : State) (y : Nat) (r : Row) : (setFbRow s y r).winLine = s.winLine := rfl
@[simp] theorem setFbRow_vram (s : State) (y : Nat) (r : Row) : (setFbRow s y r).vram = s.vram := rfl
@[simp] theorem setFbRow_oam (s : State) (y : Nat) (r : Row) : (setFbRow s y r).oam = s.oam := rfl
@[simp] theorem setFbRow_spr (s : State) (y : Nat) (r : Row) : (setFbRow s y r).spr = s.spr := rfl
@[simp] theorem setFbRow_fb (s : State) (y : Nat) (r : Row) : (setFbRow s y r).fb = s.fb.setIfInBounds y (some r) := rfl
@[simp] theorem setFbRow_cfg (s : State) (y : Nat) (r : Row) : (setFbRow s y r).cfg = s.cfg := rfl
@[simp] theorem setFbRow_cmds (s : State) (y : Nat) (r : Row) : (setFbRow s y r).cmds = s.cmds := rfl
@[simp] theorem setFbRow_resp (s : State) (y : Nat) (r : Row) : (setFbRow s y r).resp = s.resp := rfl
@[simp] theorem setFbRow_epoch (s : State) (y : Nat) (r : Row) : (setFbRow s y r).epoch = s.epoch := rfl
@[simp] theorem setFbRow_irqDraws (s : State) (y : Nat) (r : Row) : (setFbRow s y r).irqDraws = s.irqDraws := rfl

/-! ## `oamScan` -/

@[simp] theorem oamScan_lcdc (s : State) : (oamScan s).lcdc = s.lcdc := rfl
@[simp] theorem oamScan_mode (s : State) : (oamScan s).mode = s.mode := rfl
@[simp] theorem oamScan_lycMatch (s : State) : (oamScan s).lycMatch = s.lycMatch := rfl
@[simp] theorem oamScan_ie (s : State) : (oamScan s).ie = s.ie := rfl
@[simp] theorem oamScan_scy (s : State) : (oamScan s).scy = s.scy := rfl
@[simp] theorem oamScan_scx (s : State) : (oamScan s).scx = s.scx := rfl
@[simp] theorem oamScan_ly (s : State) : (oamScan s).ly = s.ly := rfl
@[simp] theorem oamScan_lyc (s : State) : (oamScan s).lyc = s.lyc := rfl
@[simp] theorem oamScan_bgp (s : State) : (oamScan s).bgp = s.bgp := rfl
@[simp] theorem oamScan_obp0 (s : State) : (oamScan s).obp0 = s.obp0 := rfl
@[simp] theorem oamScan_obp1 (s : State) : (oamScan s).obp1 = s.obp1 := rfl
@[simp] theorem oamScan_wy (s : State) : (oamScan s).wy = s.wy := rfl
@[simp] theorem oamScan_wx (s : State) : (oamScan s).wx = s.wx := rfl
@[simp] theorem oamScan_winLine (s : State) : (oamScan s).winLine = s.winLine := rfl
@[simp] theorem oamScan_vram (s : State) : (oamScan s).vram = s.vram := rfl
@[simp] theorem oamScan_oam (s : State) : (oamScan s).oam = s.oam := rfl
@[simp] theorem oamScan_spr (s : State) : (oamScan s).spr = some (Vector.ofFn (scanSprite s)) := rfl
@[simp] theorem oamScan_fb (s : State) : (oamScan s).fb = s.fb := rfl
@[simp] theorem oamScan_cfg (s : State) : (oamScan s).cfg = s.cfg := rfl
@[simp] theorem oamScan_cmds (s : State) : (oamScan s).cmds = s.cmds := rfl
@[simp] theorem oamScan_resp (s : State) : (oamScan s).resp = s.resp := rfl
@[simp] theorem oamScan_epoch (s : State) : (oamScan s).epoch = s.epoch := rfl
@[simp] theorem oamScan_irqDraws (s : State) : (oamScan s).irqDraws = s.irqDraws := rfl

/-! ## `vramWrite` -/

@[simp] theorem vramWrite_lcdc (s : State) (a : Int) (v : Byte) : (vramWrite s a v).lcdc = s.lcdc := by unfold vramWrite; split <;> rfl
@[simp] theorem vramWrite_mode (s : State) (a : Int) (v : Byte) : (vramWrite s a v).mode = s.mode := by unfold vramWrite; split <;> rfl
@[simp] theorem vramWrite_lycMatch (s : State) (a : Int) (v : Byte) : (vramWrite s a v).lycMatch = s.lycMatch := by unfold vramWrite; split <;> rfl
@[simp] theorem vramWrite_ie (s : State) (a : Int) (v : Byte) : (vramWrite s a v).ie = s.ie := by unfold vramWrite; split <;> rfl
@[simp] theorem vramWrite_scy (s : State) (a : Int) (v : Byte) : (vramWrite s a v).scy = s.scy := by unfold vramWrite; split <;> rfl
@[simp] theorem vramWrite_scx (s : State) (a : Int) (v : Byte) : (vramWrite s a v).scx = s.scx := by unfold vramWrite; split <;> rfl
@[simp] theorem vramWrite_ly (s : State) (a : Int) (v : Byte) : (vramWrite s a v).ly = s.ly := by unfold vramWrite; split <;> rfl
@[simp] theorem vramWrite_lyc (s : State) (a : Int) (v : Byte) : (vramWrite s a v).lyc = s.lyc := by unfold vramWrite; split <;> rfl
@[simp] theorem vramWrite_bgp (s : State) (a : Int) (v : Byte) : (vramWrite s a v).bgp = s.bgp := by unfold vramWrite; split <;> rfl
@[simp] theorem vramWrite_obp0 (s : State) (a : Int) (v : Byte) : (vramWrite s a v).obp0 = s.obp0 := by unfold vramWrite; split <;> rfl
@[simp] theorem vramWrite_obp1 (s : State) (a : Int) (v : Byte) : (vramWrite s a v).obp1 = s.obp1 := by unfold vramWrite; split <;> rfl
@[simp] theorem vramWrite_wy (s : State) (a : Int) (v : Byte) : (vramWrite s a v).wy = s.wy := by unfold vramWrite; split <;> rfl
@[simp] theorem vramWrite_wx (s : State) (a : Int) (v : Byte) : (vramWrite s a v).wx = s.wx := by unfold vramWrite; split <;> rfl
@[simp] theorem vramWrite_winLine (s : State) (a : Int) (v : Byte) : (vramWrite s a v).winLine = s.winLine := by unfold vramWrite; split <;> rfl
@[simp] theorem vramWrite_oam (s : State) (a : Int) (v : Byte) : (vramWrite s a v).oam = s.oam := by unfold vramWrite; split <;> rfl
@[simp] theorem vramWrite_spr (s : State) (a : Int) (v : Byte) : (vramWrite s a v).spr = s.spr := by unfold vramWrite; split <;> rfl
@[simp] theorem vramWrite_fb (s : State) (a : Int) (v : Byte) : (vramWrite s a v).fb = s.fb := by unfold vramWrite; split <;> rfl
@[simp] theorem vramWrite_cfg (s : State) (a : Int) (v : Byte) : (vramWrite s a v).cfg = s.cfg := by unfold vramWrite; split <;> rfl
@[simp] theorem vramWrite_cmds (s : State) (a : Int) (v : Byte) : (vramWrite s a v).cmds = s.cmds := by unfold vramWrite; split <;> rfl
@[simp] theorem vramWrite_resp (s : State) (a : Int) (v : Byte) : (vramWrite s a v).resp = s.resp := by unfold vramWrite; split <;> rfl
@[simp] theorem vramWrite_epoch (s : State) (a : Int) (v : Byte) : (vramWrite s a v).epoch = s.epoch := by unfold vramWrite; split <;> rfl
@[simp] theorem vramWrite_irqDraws (s : State) (a : Int) (v : Byte) : (vramWrite s a v).irqDraws = s.irqDraws := by unfold vramWrite; split <;> rfl

/-! ## `oamWrite` -/

@[simp] theorem oamWrite_lcdc (s : State) (i : Int) (v : Byte) : (oamWrite s i v).lcdc = s.lcdc := by unfold oamWrite; split <;> rfl
@[simp] theorem oamWrite_mode (s : State) (i : Int) (v : Byte) : (oamWrite s i v).mode = s.mode := by unfold oamWrite; split <;> rfl
@[simp] theorem oamWrite_lycMatch (s : State) (i : Int) (v : Byte) : (oamWrite s i v).lycMatch = s.lycMatch := by unfold oamWrite; split <;> rfl
@[simp] theorem oamWrite_ie (s : State) (i : Int) (v : Byte) : (oamWrite s i v).ie = s.ie := by unfold oamWrite; split <;> rfl
@[simp] theorem oamWrite_scy (s : State) (i : Int) (v : Byte) : (oamWrite s i v).scy = s.scy := by unfold oamWrite; split <;> rfl
@[simp] theorem oamWrite_scx (s : State) (i : Int) (v : Byte) : (oamWrite s i v).scx = s.scx := by unfold oamWrite; split <;> rfl
@[simp] theorem oamWrite_ly (s : State) (i : Int) (v : Byte) : (oamWrite s i v).ly = s.ly := by unfold oamWrite; split <;> rfl
@[simp] theorem oamWrite_lyc (s : State) (i : Int) (v : Byte) : (oamWrite s i v).lyc = s.lyc := by unfold oamWrite; split <;> rfl
@[simp] theorem oamWrite_bgp (s : State) (i : Int) (v : Byte) : (oamWrite s i v).bgp = s.bgp := by unfold oamWrite; split <;> rfl
@[simp] theorem oamWrite_obp0 (s : State) (i : Int) (v : Byte) : (oamWrite s i v).obp0 = s.obp0 := by unfold oamWrite; split <;> rfl
@[simp] theorem oamWrite_obp1 (s : State) (i : Int) (v : Byte) : (oamWrite s i v).obp1 = s.obp1 := by unfold oamWrite; split <;> rfl
@[simp] theorem oamWrite_wy (s : State) (i : Int) (v : Byte) : (oamWrite s i v).wy = s.wy := by unfold oamWrite; split <;> rfl
@[simp] theorem oamWrite_wx (s : State) (i : Int) (v : Byte) : (oamWrite s i v).wx = s.wx := by unfold oamWrite; split <;> rfl
@[simp] theorem oamWrite_winLine (s : State) (i : Int) (v : Byte) : (oamWrite s i v).winLine = s.winLine := by unfold oamWrite; split <;> rfl
@[simp] theorem oamWrite_vram (s : State) (i : Int) (v : Byte) : (oamWrite s i v).vram = s.vram := by unfold oamWrite; split <;> rfl
@[simp] theorem oamWrite_spr (s : State) (i : Int) (v : Byte) : (oamWrite s i v).spr = s.spr := by unfold oamWrite; split <;> rfl
@[simp] theorem oamWrite_fb (s : State) (i : Int) (v : Byte) : (oamWrite s i v).fb = s.fb := by unfold oamWrite; split <;> rfl
@[simp] theorem oamWrite_cfg (s : State) (i : Int) (v : Byte) : (oamWrite s i v).cfg = s.cfg := by unfold oamWrite; split <;> rfl
@[simp] theorem oamWrite_cmds (s : State) (i : Int) (v : Byte) : (oamWrite s i v).cmds = s.cmds := by unfold oamWrite; split <;> rfl
@[simp] theorem oamWrite_resp (s : State) (i : Int) (v : Byte) : (oamWrite s i v).resp = s.resp := by unfold oamWrite; split <;> rfl
@[simp] theorem oamWrite_epoch (s : State) (i : Int) (v : Byte) : (oamWrite s i v).epoch = s.epoch := by unfold oamWrite; split <;> rfl
@[simp] theorem oamWrite_irqDraws (s : State) (i : Int) (v : Byte) : (oamWrite s i v).irqDraws = s.irqDraws := by unfold oamWrite; split <;> rfl

/-! ## `enterOamScan` -/

@[simp] theorem enterOamScan_lcdc (s : State) : (enterOamScan s).lcdc = s.lcdc := by unfold enterOamScan; split <;> rfl
@[simp] theorem enterOamScan_mode (s : State) : (enterOamScan s).mode = .oamScan := by unfold enterOamScan; split <;> rfl
@[simp] theorem enterOamScan_lycMatch (s : State) : (enterOamScan s).lycMatch = s.lycMatch := by unfold enterOamScan; split <;> rfl
@[simp] theorem enterOamScan_ie (s : State) : (enterOamScan s).ie = s.ie := by unfold enterOamScan; split <;> rfl
@[simp] theorem enterOamScan_scy (s : State) : (enterOamScan s).scy = s.scy := by unfold enterOamScan; split <;> rfl
@[simp] theorem enterOamScan_scx (s : State) : (enterOamScan s).scx = s.scx := by unfold enterOamScan; split <;> rfl
@[simp] theorem enterOamScan_ly (s : State) : (enterOamScan s).ly = s.ly := by unfold enterOamScan; split <;> rfl
@[simp] theorem enterOamScan_lyc (s : State) : (enterOamScan s).lyc = s.lyc := by unfold enterOamScan; split <;> rfl
@[simp] theorem enterOamScan_bgp (s : State) : (enterOamScan s).bgp = s.bgp := by unfold enterOamScan; split <;> rfl
@[simp] theorem enterOamScan_obp0 (s : State) : (enterOamScan s).obp0 = s.obp0 := by unfold enterOamScan; split <;> rfl
@[simp] theorem enterOamScan_obp1 (s : State) : (enterOamScan s).obp1 = s.obp1 := by unfold enterOamScan; split <;> rfl
@[simp] theorem enterOamScan_wy (s : State) : (enterOamScan s).wy = s.wy := by unfold enterOamScan; split <;> rfl
@[simp] theorem enterOamScan_wx (s : State) : (enterOamScan s).wx = s.wx := by unfold enterOamScan; split <;> rfl
@[simp] theorem enterOamScan_winLine (s : State) : (enterOamScan s).winLine = s.winLine := by unfold enterOamScan; split <;> rfl
@[simp] theorem enterOamScan_vram (s : State) : (enterOamScan s).vram = s.vram := by unfold enterOamScan; split <;> rfl
@[simp] theorem enterOamScan_oam (s : State) : (enterOamScan s).oam = s.oam := by unfold enterOamScan; split <;> rfl
@[simp] theorem enterOamScan_fb (s : State) : (enterOamScan s).fb = s.fb := by unfold enterOamScan; split <;> rfl
@[simp] theorem enterOamScan_cfg (s : State) : (enterOamScan s).cfg = s.cfg := by unfold enterOamScan; split <;> rfl
@[simp] theorem enterOamScan_cmds (s : State) : (enterOamScan s).cmds = s.cmds := by unfold enterOamScan; split <;> rfl
@[simp] theorem enterOamScan_resp (s : State) : (enterOamScan s).resp = s.resp := by unfold enterOamScan; split <;> rfl
@[simp] theorem enterOamScan_epoch (s : State) : (enterOamScan s).epoch = s.epoch := by unfold enterOamScan; split <;> rfl
@[simp] theorem enterOamScan_irqDraws (s : State) : (enterOamScan s).irqDraws = s.irqDraws := by unfold enterOamScan; split <;> rfl

/-! ## `storeLcdc` -/

@[simp] theorem storeLcdc_lcdc (v : Byte) (s : State) : (storeLcdc v s).lcdc = v := rfl
@[simp] theorem storeLcdc_mode (v : Byte) (s : State) : (storeLcdc v s).mode = s.mode := rfl
@[simp] theorem storeLcdc_lycMatch (v : Byte) (s : State) : (storeLcdc v s).lycMatch = s.lycMatch := rfl
@[simp] theorem storeLcdc_ie (v : Byte) (s : State) : (storeLcdc v s).ie = s.ie := rfl
@[simp] theorem storeLcdc_scy (v : Byte) (s : State) : (storeLcdc v s).scy = s.scy := rfl
@[simp] theorem storeLcdc_scx (v : Byte) (s : State) : (storeLcdc v s).scx = s.scx := rfl
@[simp] theorem storeLcdc_ly (v : Byte) (s : State) : (storeLcdc v s).ly = s.ly := rfl
@[simp] theorem storeLcdc_lyc (v : Byte) (s : State) : (storeLcdc v s).lyc = s.lyc := rfl
@[simp] theorem storeLcdc_bgp (v : Byte) (s : State) : (storeLcdc v s).bgp = s.bgp := rfl
@[simp] theorem storeLcdc_obp0 (v : Byte) (s : State) : (storeLcdc v s).obp0 = s.obp0 := rfl
@[simp] theorem storeLcdc_obp1 (v : Byte) (s : State) : (storeLcdc v s).obp1 = s.obp1 := rfl
@[simp] theorem storeLcdc_wy (v : Byte) (s : State) : (storeLcdc v s).wy = s.wy := rfl
@[simp] theorem storeLcdc_wx (v : Byte) (s : State) : (storeLcdc v s).wx = s.wx := rfl
@[simp] theorem storeLcdc_winLine (v : Byte) (s : State) : (storeLcdc v s).winLine = if s.lcdcBit s.cfg.lcdcWinEn then s.winLine else 0 := rfl
@[simp] theorem storeLcdc_vram (v : Byte) (s : State) : (storeLcdc v s).vram = s.vram := rfl
@[simp] theorem storeLcdc_oam (v : Byte) (s : State) : (storeLcdc v s).oam = s.oam := rfl
@[simp] theorem storeLcdc_spr (v : Byte) (s : State) : (storeLcdc v s).spr = s.spr := rfl
@[simp] theorem storeLcdc_fb (v : Byte) (s : State) : (storeLcdc v s).fb = s.fb := rfl
@[simp] theorem storeLcdc_cfg (v : Byte) (s : State) : (storeLcdc v s).cfg = s.cfg := rfl
@[simp] theorem storeLcdc_cmds (v : Byte) (s : State) : (storeLcdc v s).cmds = s.cmds := rfl
@[simp] theorem storeLcdc_resp (v : Byte) (s : State) : (storeLcdc v s).resp = s.resp := rfl
@[simp] theorem storeLcdc_epoch (v : Byte) (s : State) : (storeLcdc v s).epoch = s.epoch := rfl
@[simp] theorem storeLcdc_irqDraws (v : Byte) (s : State) : (storeLcdc v s).irqDraws = s.irqDraws := rfl

/-! ## `lcdOff` -/

@[simp] theorem lcdOff_lcdc (s : State) : (lcdOff s).lcdc = s.lcdc := rfl
@[simp] theorem lcdOff_mode (s : State) : (lcdOff s).mode = .hblank := rfl
@[simp] theorem lcdOff_lycMatch (s : State) : (lcdOff s).lycMatch = ((0 : Byte) == s.lyc) := rfl
@[simp] theorem lcdOff_ie (s : State) : (lcdOff s).ie = s.ie := rfl
@[simp] theorem lcdOff_scy (s : State) : (lcdOff s).scy = s.scy := rfl
@[simp] theorem lcdOff_scx (s : State) : (lcdOff s).scx = s.scx := rfl
@[simp] theorem lcdOff_ly (s : State) : (lcdOff s).ly = 0 := rfl
@[simp] theorem lcdOff_lyc (s : State) : (lcdOff s).lyc = s.lyc := rfl
@[simp] theorem lcdOff_bgp (s : State) : (lcdOff s).bgp = s.bgp := rfl
@[simp] theorem lcdOff_obp0 (s : State) : (lcdOff s).obp0 = s.obp0 := rfl
@[simp] theorem lcdOff_obp1 (s : State) : (lcdOff s).obp1 = s.obp1 := rfl
@[simp] theorem lcdOff_wy (s : State) : (lcdOff s).wy = s.wy := rfl
@[simp] theorem lcdOff_wx (s : State) : (lcdOff s).wx = s.wx := rfl
@[simp] theorem lcdOff_winLine (s : State) : (lcdOff s).winLine = 0 := rfl
@[simp] theorem lcdOff_vram (s : State) : (lcdOff s).vram = s.vram := rfl
@[simp] theorem lcdOff_oam (s : State) : (lcdOff s).oam = s.oam := rfl
@[simp] theorem lcdOff_spr (s : State) : (lcdOff s).spr = s.spr := rfl
@[simp] theorem lcdOff_fb (s : State) : (lcdOff s).fb = s.fb := rfl
@[simp] theorem lcdOff_cfg (s : State) : (lcdOff s).cfg = s.cfg := rfl
@[simp] theorem lcdOff_cmds (s : State) : (lcdOff s).cmds = s.cmds := rfl
@[simp] theorem lcdOff_resp (s : State) : (lcdOff s).resp = s.resp := rfl
@[simp] theorem lcdOff_epoch (s : State) : (lcdOff s).epoch = s.epoch := rfl
@[simp] theorem lcdOff_irqDraws (s : State) : (lcdOff s).irqDraws = s.irqDraws := rfl

/-! ## `lcdOnState` -/

@[simp] theorem lcdOnState_lcdc (s : State) : (lcdOnState s).lcdc = s.lcdc := by unfold lcdOnState; simp
@[simp] theorem lcdOnState_mode (s : State) : (lcdOnState s).mode = .oamScan := by unfold lcdOnState; simp
@[simp] theorem lcdOnState_lycMatch (s : State) : (lcdOnState s).lycMatch = ((0 : Byte) == s.lyc) := by unfold lcdOnState; simp
@[simp] theorem lcdOnState_ie (s : State) : (lcdOnState s).ie = s.ie := by unfold lcdOnState; simp
@[simp] theorem lcdOnState_scy (s : State) : (lcdOnState s).scy = s.scy := by unfold lcdOnState; simp
@[simp] theorem lcdOnState_scx (s : State) : (lcdOnState s).scx = s.scx := by unfold lcdOnState; simp
@[simp] theorem lcdOnState_ly (s : State) : (lcdOnState s).ly = 0 := by unfold lcdOnState; simp
@[simp] theorem lcdOnState_lyc (s : State) : (lcdOnState s).lyc = s.lyc := by unfold lcdOnState; simp
@[simp] theorem lcdOnState_bgp (s : State) : (lcdOnState s).bgp = s.bgp := by unfold lcdOnState; simp
@[simp] theorem lcdOnState_obp0 (s : State) : (lcdOnState s).obp0 = s.obp0 := by unfold lcdOnState; simp
@[simp] theorem lcdOnState_obp1 (s : State) : (lcdOnState s).obp1 = s.obp1 := by unfold lcdOnState; simp
@[simp] theorem lcdOnState_wy (s : State) : (lcdOnState s).wy = s.wy := by unfold lcdOnState; simp
@[simp] theorem lcdOnState_wx (s : State) : (lcdOnState s).wx = s.wx := by unfold lcdOnState; simp
@[simp] theorem lcdOnState_winLine (s : State) : (lcdOnState s).winLine = 0 := by unfold lcdOnState; simp
@[simp] theorem lcdOnState_vram (s : State) : (lcdOnState s).vram = s.vram := by unfold lcdOnState; simp
@[simp] theorem lcdOnState_oam (s : State) : (lcdOnState s).oam = s.oam := by unfold lcdOnState; simp
@[simp] theorem lcdOnState_fb (s : State) : (lcdOnState s).fb = s.fb := by unfold lcdOnState; simp
@[simp] theorem lcdOnState_cfg (s : State) : (lcdOnState s).cfg = s.cfg := by unfold lcdOnState; simp
@[simp] theorem lcdOnState_cmds (s : State) : (lcdOnState s).cmds = s.cmds := by unfold lcdOnState; simp
@[simp] theorem lcdOnState_resp (s : State) : (lcdOnState s).resp = s.resp := by unfold lcdOnState; simp
@[simp] theorem lcdOnState_epoch (s : State) : (lcdOnState s).epoch = s.epoch := by unfold lcdOnState; simp
@[simp] theorem lcdOnState_irqDraws (s : State) : (lcdOnState s).irqDraws = s.irqDraws := by unfold lcdOnState; simp

/-! ## `answerLcdcIrq` -/

@[simp] theorem answerLcdcIrq_lcdc (s : State) (b : Bool) : (answerLcdcIrq s b).lcdc = s.lcdc := by unfold answerLcdcIrq; split <;> rfl
@[simp] theorem answerLcdcIrq_mode (s : State) (b : Bool) : (answerLcdcIrq s b).mode = s.mode := by unfold answerLcdcIrq; split <;> rfl
@[simp] theorem answerLcdcIrq_lycMatch (s : State) (b : Bool) : (answerLcdcIrq s b).lycMatch = s.lycMatch := by unfold answerLcdcIrq; split <;> rfl
@[simp] theorem answerLcdcIrq_ie (s : State) (b : Bool) : (answerLcdcIrq s b).ie = s.ie := by unfold answerLcdcIrq; split <;> rfl
@[simp] theorem answerLcdcIrq_scy (s : State) (b : Bool) : (answerLcdcIrq s b).scy = s.scy := by unfold answerLcdcIrq; split <;> rfl
@[simp] theorem answerLcdcIrq_scx (s : State) (b : Bool) : (answerLcdcIrq s b).scx = s.scx := by unfold answerLcdcIrq; split <;> rfl
@[simp] theorem answerLcdcIrq_ly (s : State) (b : Bool) : (answerLcdcIrq s b).ly = s.ly := by unfold answerLcdcIrq; split <;> rfl
@[simp] theorem answerLcdcIrq_lyc (s : State) (b : Bool) : (answerLcdcIrq s b).lyc = s.lyc := by unfold answerLcdcIrq; split <;> rfl
@[simp] theorem answerLcdcIrq_bgp (s : State) (b : Bool) : (answerLcdcIrq s b).bgp = s.bgp := by unfold answerLcdcIrq; split <;> rfl
@[simp] theorem answerLcdcIrq_obp0 (s : State) (b : Bool) : (answerLcdcIrq s b).obp0 = s.obp0 := by unfold answerLcdcIrq; split <;> rfl
@[simp] theorem answerLcdcIrq_obp1 (s : State) (b : Bool) : (answerLcdcIrq s b).obp1 = s.obp1 := by unfold answerLcdcIrq; split <;> rfl
@[simp] theorem answerLcdcIrq_wy (s : State) (b : Bool) : (answerLcdcIrq s b).wy = s.wy := by unfold answerLcdcIrq; split <;> rfl
@[simp] theorem answerLcdcIrq_wx (s : State) (b : Bool) : (answerLcdcIrq s b).wx = s.wx := by unfold answerLcdcIrq; split <;> rfl
@[simp] theorem answerLcdcIrq_winLine (s : State) (b : Bool) : (answerLcdcIrq s b).winLine = s.winLine := by unfold answerLcdcIrq; split <;> rfl
@[simp] theorem answerLcdcIrq_vram (s : State) (b : Bool) : (answerLcdcIrq s b).vram = s.vram := by unfold answerLcdcIrq; split <;> rfl
@[simp] theorem answerLcdcIrq_oam (s : State) (b : Bool) : (answerLcdcIrq s b).oam = s.oam := by unfold answerLcdcIrq; split <;> rfl
@[simp] theorem answerLcdcIrq_spr (s : State) (b : Bool) : (answerLcdcIrq s b).spr = s.spr := by unfold answerLcdcIrq; split <;> rfl
@[simp] theorem answerLcdcIrq_fb (s : State) (b : Bool) : (answerLcdcIrq s b).fb = s.fb := by unfold answerLcdcIrq; split <;> rfl
@[simp] theorem answerLcdcIrq_cfg (s : State) (b : Bool) : (answerLcdcIrq s b).cfg = s.cfg := by unfold answerLcdcIrq; split <;> rfl
@[simp] theorem answerLcdcIrq_cmds (s : State) (b : Bool) : (answerLcdcIrq s b).cmds = s.cmds := by unfold answerLcdcIrq; split <;> rfl
@[simp] theorem answerLcdcIrq_epoch (s : State) (b : Bool) : (answerLcdcIrq s b).epoch = s.epoch := by unfold answerLcdcIrq; split <;> rfl

@[simp] theorem answerRead_eq (s : State) (v : Byte) : answerRead s v = .next { s with resp := .rdata v } := rfl
@[simp] theorem answerIrq_eq (s : State) (b : Bool) : answerIrq s b = .next { s with resp := .lycIrq b } := rfl

/-! ## `resetRegisters` -/

@[simp] theorem resetRegisters_lcdc (s : State) : (resetRegisters s).lcdc = s.cfg.resetState.lcdc := rfl
@[simp] theorem resetRegisters_mode (s : State) : (resetRegisters s).mode = s.mode := rfl
@[simp] theorem resetRegisters_lycMatch (s : State) : (resetRegisters s).lycMatch = s.lycMatch := rfl
@[simp] theorem resetRegisters_ie (s : State) : (resetRegisters s).ie = s.cfg.resetState.ie := rfl
@[simp] theorem resetRegisters_scy (s : State) : (resetRegisters s).scy = s.cfg.resetState.scy := rfl
@[simp] theorem resetRegisters_scx (s : State) : (resetRegisters s).scx = s.cfg.resetState.scx := rfl
@[simp] theorem resetRegisters_ly (s : State) : (resetRegisters s).ly = s.ly := rfl
@[simp] theorem resetRegisters_lyc (s : State) : (resetRegisters s).lyc = s.cfg.resetState.lyc := rfl
@[simp] theorem resetRegisters_bgp (s : State) : (resetRegisters s).bgp = s.cfg.resetState.bgp := rfl
@[simp] theorem resetRegisters_obp0 (s : State) : (resetRegisters s).obp0 = s.cfg.resetState.obp0 := rfl
@[simp] theorem resetRegisters_obp1 (s : State) : (resetRegisters s).obp1 = s.cfg.resetState.obp1 := rfl
@[simp] theorem resetRegisters_wy (s : State) : (resetRegisters s).wy = s.cfg.resetState.wy := rfl
@[simp] theorem resetRegisters_wx (s : State) : (resetRegisters s).wx = s.cfg.resetState.wx := rfl
@[simp] theorem resetRegisters_winLine (s : State) : (resetRegisters s).winLine = s.winLine := rfl
@[simp] theorem resetRegisters_vram (s : State) : (resetRegisters s).vram = s.vram := rfl
@[simp] theorem resetRegisters_oam (s : State) : (resetRegisters s).oam = s.oam := rfl
@[simp] theorem resetRegisters_spr (s : State) : (resetRegisters s).spr = s.spr := rfl
@[simp] theorem resetRegisters_fb (s : State) : (resetRegisters s).fb = s.fb := rfl
@[simp] theorem resetRegisters_cfg (s : State) : (resetRegisters s).cfg = s.cfg := rfl
@[simp] theorem resetRegisters_cmds (s : State) : (resetRegisters s).cmds = s.cmds := rfl
@[simp] theorem resetRegisters_resp (s : State) : (resetRegisters s).resp = s.resp := rfl
@[simp] theorem resetRegisters_epoch (s : State) : (resetRegisters s).epoch = s.epoch := rfl
@[simp] theorem resetRegisters_irqDraws (s : State) : (resetRegisters s).irqDraws = s.irqDraws := rfl

/-! ## `forgetContents` -/

@[simp] theorem forgetContents_lcdc (s : State) : (forgetContents s).lcdc = s.lcdc := rfl
@[simp] theorem forgetContents_mode (s : State) : (forgetContents s).mode = s.mode := rfl
@[simp] theorem forgetContents_lycMatch (s : State) : (forgetContents s).lycMatch = s.lycMatch := rfl
@[simp] theorem forgetContents_ie (s : State) : (forgetContents s).ie = s.ie := rfl
@[simp] theorem forgetContents_scy (s : State) : (forgetContents s).scy = s.scy := rfl
@[simp] theorem forgetContents_scx (s : State) : (forgetContents s).scx = s.scx := rfl
@[simp] theorem forgetContents_ly (s : State) : (forgetContents s).ly = s.ly := rfl
@[simp] theorem forgetContents_lyc (s : State) : (forgetContents s).lyc = s.lyc := rfl
@[simp] theorem forgetContents_bgp (s : State) : (forgetContents s).bgp = s.bgp := rfl
@[simp] theorem forgetContents_obp0 (s : State) : (forgetContents s).obp0 = s.obp0 := rfl
@[simp] theorem forgetContents_obp1 (s : State) : (forgetContents s).obp1 = s.obp1 := rfl
@[simp] theorem forgetContents_wy (s : State) : (forgetContents s).wy = s.wy := rfl
@[simp] theorem forgetContents_wx (s : State) : (forgetContents s).wx = s.wx := rfl
@[simp] theorem forgetContents_winLine (s : State) : (forgetContents s).winLine = s.winLine := rfl
@[simp] theorem forgetContents_vram (s : State) : (forgetContents s).vram = [] := rfl
@[simp] theorem forgetContents_oam (s : State) : (forgetContents s).oam = [] := rfl
@[simp] theorem forgetContents_spr (s : State) : (forgetContents s).spr = none := rfl
@[simp] theorem forgetContents_fb (s : State) : (forgetContents s).fb = Vector.replicate 144 none := rfl
@[simp] theorem forgetContents_cfg (s : State) : (forgetContents s).cfg = s.cfg := rfl
@[simp] theorem forgetContents_cmds (s : State) : (forgetContents s).cmds = s.cmds := rfl
@[simp] theorem forgetContents_resp (s : State) : (forgetContents s).resp = s.resp := rfl
@[simp] theorem forgetContents_epoch (s : State) : (forgetContents s).epoch = s.epoch + 1 := rfl
@[simp] theorem forgetContents_irqDraws (s : State) : (forgetContents s).irqDraws = s.irqDraws := rfl

end Sys2Proof.Machine
end

