-- ==== Sys2Proof/Laws/Memory.lean ====
section
/-!
SUPPORT. The laws of the memories: a read after a write, the canonical form, and what `VramWrite` and `OamWrite` do to
the bytes.
-/

namespace Sys2Proof.Machine

theorem readCell_writeCell_same (m : Memory) (i : Nat) (v : Byte) : (m.writeCell i v).readCell i = some v := by
  induction m with
  | nil => simp [Memory.writeCell, Memory.readCell]
  | cons e m ih =>
    obtain ⟨j, w⟩ := e
    simp only [Memory.writeCell]
    split
    · simp [Memory.readCell]
    · split
      · simp [Memory.readCell]
      · rename_i h1 h2
        simp [Memory.readCell, Ne.symm h2, ih]

theorem readCell_writeCell_ne (m : Memory) {i k : Nat} (v : Byte) (h : k ≠ i) :
    (m.writeCell i v).readCell k = m.readCell k := by
  induction m with
  | nil => simp [Memory.writeCell, Memory.readCell, h.symm]
  | cons e m ih =>
    obtain ⟨j, w⟩ := e
    simp only [Memory.writeCell]
    split
    · simp [Memory.readCell, h.symm]
    · split
      · rename_i h1 h2
        subst h2
        simp [Memory.readCell, h.symm]
      · simp [Memory.readCell, ih]

theorem readCell_writeCell (m : Memory) (i k : Nat) (v : Byte) :
    (m.writeCell i v).readCell k = if k = i then some v else m.readCell k := by
  split
  · rename_i h; subst h; exact readCell_writeCell_same m k v
  · rename_i h; exact readCell_writeCell_ne m v h

/-- Every listed index of a written memory was listed before, or is the one written. -/
theorem mem_writeCell {m : Memory} {i : Nat} {v : Byte} {e : Host.Cell} (h : e ∈ m.writeCell i v) :
    e = (i, v) ∨ e ∈ m := by
  induction m with
  | nil => simpa [Memory.writeCell] using h
  | cons x m ih =>
    obtain ⟨j, w⟩ := x
    simp only [Memory.writeCell] at h
    split at h
    · simpa using h
    · split at h
      · rcases List.mem_cons.mp h with rfl | h
        · exact .inl rfl
        · exact .inr (List.mem_cons_of_mem _ h)
      · rcases List.mem_cons.mp h with rfl | h
        · exact .inr List.mem_cons_self
        · exact (ih h).imp id (List.mem_cons_of_mem _)

/-- A write keeps the canonical form. -/
theorem writeCell_wf {m : Memory} (h : m.wf) (i : Nat) (v : Byte) : (m.writeCell i v).wf := by
  induction m with
  | nil => simp [Memory.writeCell]
  | cons x m ih =>
    obtain ⟨j, w⟩ := x
    obtain ⟨hj, hm⟩ := List.pairwise_cons.mp h
    simp only [Memory.writeCell]
    split
    · rename_i hij
      refine List.pairwise_cons.mpr ⟨fun e he => ?_, h⟩
      rcases List.mem_cons.mp he with rfl | he
      · exact hij
      · exact hij.trans (hj e he)
    · rename_i hij
      split
      · rename_i h2
        subst h2
        exact List.pairwise_cons.mpr ⟨hj, hm⟩
      · rename_i h2
        refine List.pairwise_cons.mpr ⟨fun e he => ?_, ih hm⟩
        rcases mem_writeCell he with rfl | he
        · change j < i
          omega
        · exact hj e he

/-- A write inside a range keeps every listed index inside it. -/
theorem writeCell_range {m : Memory} {n : Nat} (h : ∀ e ∈ m, e.1 < n) {i : Nat} (hi : i < n) (v : Byte) :
    ∀ e ∈ m.writeCell i v, e.1 < n := by
  intro e he
  rcases mem_writeCell he with rfl | he
  · exact hi
  · exact h e he

/-! ## VRAM and OAM bytes -/

/-- The byte of VRAM depends on the store and the epoch only. -/
theorem vramByte_congr {s t : State} (hv : t.vram = s.vram) (he : t.epoch = s.epoch) (i : Nat) :
    vramByte t i = vramByte s i := by simp [vramByte, hv, he]

/-- The byte of OAM depends on the store and the epoch only. -/
theorem oamByte_congr {s t : State} (hv : t.oam = s.oam) (he : t.epoch = s.epoch) (i : Nat) :
    oamByte t i = oamByte s i := by simp [oamByte, hv, he]

theorem vramRead_congr {s t : State} (hv : t.vram = s.vram) (he : t.epoch = s.epoch) (a : Int) :
    vramRead t a = vramRead s a := by simp [vramRead, vramByte, hv, he]

theorem oamRead_congr {s t : State} (hv : t.oam = s.oam) (he : t.epoch = s.epoch) (i : Int) :
    oamRead t i = oamRead s i := by simp [oamRead, oamByte, hv, he]

/-- `VramWrite` inside the range: one byte changes. -/
theorem vramByte_vramWrite {s : State} {a : Int} (h : 0x8000 ≤ a ∧ a ≤ 0x9FFF) (v : Byte) (i : Nat) :
    vramByte (vramWrite s a v) i = if i = (a - 0x8000).toNat then v else vramByte s i := by
  simp only [vramByte, vramWrite, if_pos h, readCell_writeCell]
  split <;> simp

/-- `VramWrite` outside the range changes nothing (R91). -/
theorem vramWrite_out {s : State} {a : Int} (h : ¬(0x8000 ≤ a ∧ a ≤ 0x9FFF)) (v : Byte) : vramWrite s a v = s := by
  simp only [vramWrite, if_neg h]

/-- `OamWrite` inside the range: one byte changes. -/
theorem oamByte_oamWrite {s : State} {a : Int} (h : 0 ≤ a ∧ a ≤ 159) (v : Byte) (i : Nat) :
    oamByte (oamWrite s a v) i = if i = a.toNat then v else oamByte s i := by
  simp only [oamByte, oamWrite, if_pos h, readCell_writeCell]
  split <;> simp

/-- `OamWrite` outside the range changes nothing (R92). -/
theorem oamWrite_out {s : State} {a : Int} (h : ¬(0 ≤ a ∧ a ≤ 159)) (v : Byte) : oamWrite s a v = s := by
  simp only [oamWrite, if_neg h]

@[simp] theorem vramByte_oamWrite (s : State) (a : Int) (v : Byte) (i : Nat) :
    vramByte (oamWrite s a v) i = vramByte s i := vramByte_congr (by simp) (by simp) i

@[simp] theorem oamByte_vramWrite (s : State) (a : Int) (v : Byte) (i : Nat) :
    oamByte (vramWrite s a v) i = oamByte s i := oamByte_congr (by simp) (by simp) i

/-- `VramWrite` keeps the canonical form and the range of VRAM. -/
theorem vramWrite_wf {s : State} (h : s.vram.wf) (a : Int) (v : Byte) : (vramWrite s a v).vram.wf := by
  unfold vramWrite
  split
  · exact writeCell_wf h _ _
  · exact h

theorem vramWrite_range {s : State} (h : ∀ e ∈ s.vram, e.1 < 8192) (a : Int) (v : Byte) :
    ∀ e ∈ (vramWrite s a v).vram, e.1 < 8192 := by
  unfold vramWrite
  split
  · exact writeCell_range h (by omega) v
  · exact h

/-- `OamWrite` keeps the canonical form and the range of OAM. -/
theorem oamWrite_wf {s : State} (h : s.oam.wf) (a : Int) (v : Byte) : (oamWrite s a v).oam.wf := by
  unfold oamWrite
  split
  · exact writeCell_wf h _ _
  · exact h

theorem oamWrite_range {s : State} (h : ∀ e ∈ s.oam, e.1 < 160) (a : Int) (v : Byte) :
    ∀ e ∈ (oamWrite s a v).oam, e.1 < 160 := by
  unfold oamWrite
  split
  · exact writeCell_range h (by omega) v
  · exact h

end Sys2Proof.Machine
end

