-- ==== Sys2Proof/Laws/Picture.lean ====
section
/-!
SUPPORT. The framebuffer: reading a row after writing one, and what rendering a line does, said once.
-/

namespace Sys2Proof.Machine

theorem fbRow_setFbRow_same {s : State} {y : Nat} (h : y < 144) (r : Row) : fbRow (setFbRow s y r) y = r := by
  simp [fbRow, h]

theorem fbRow_setFbRow_ne {s : State} {y z : Nat} (h : z ≠ y) (r : Row) :
    fbRow (setFbRow s y r) z = fbRow s z := by
  simp [fbRow, Ne.symm h]

theorem fbRow_congr {s t : State} (hf : t.fb = s.fb) (he : t.epoch = s.epoch) (y : Nat) : fbRow t y = fbRow s y := by
  simp [fbRow, hf, he]

/-! ## Pixels of the row functions -/

theorem bgRow_getElem (s : State) (ly : Nat) {sx : Nat} (h : sx < 160) :
    (bgRow s ly)[sx] = if s.lcdcBit s.cfg.lcdcBgEn then bgPixel s ly sx else s.cfg.lightest := by
  unfold bgRow
  split <;> simp

theorem windowRow_getElem (s : State) (row : Row) {sx : Nat} (h : sx < 160) :
    (windowRow s row)[sx] = if windowStart s ≤ (sx : Int) then windowPixel s sx else row[sx] := by
  simp [windowRow]

theorem drawSprite_getElem (s : State) (ly : Nat) (row : Row) (sp : Sprite) {sx : Nat} (h : sx < 160) :
    (drawSprite s ly row sp)[sx] =
      if sp.x ≤ (sx : Int) ∧ (sx : Int) ≤ sp.x + 7 then spritePixel s sp ly ((sx : Int) - sp.x).toNat row[sx]
      else row[sx] := by
  simp [drawSprite]

/-! ## Rendering a line -/

/-- The line after the background and the window. -/
def underRow (s : State) (ly : Nat) : Row :=
  if windowVisible s ly then windowRow s (bgRow s ly) else bgRow s ly

/-- The finished line. -/
def lineRow (s : State) (ly : Nat) : Row :=
  if spritesEnabled s then spriteLayer s ly (underRow s ly) else underRow s ly

/-- Sprite drawing reads neither the framebuffer, nor the window counter, nor the mode. -/
theorem spriteLayer_congr (s : State) (fb : Vector (Option Row) 144) (w : Byte) (ly : Nat) (row : Row) :
    spriteLayer { s with fb := fb, winLine := w } ly row = spriteLayer s ly row := rfl

/-- The background and the window of a line, said once. -/
theorem renderUnder_eq {s : State} {ly : Nat} (h : ly < 144) :
    renderWindow (renderBg s ly) ly =
      { s with
        fb := s.fb.setIfInBounds ly (some (underRow s ly))
        winLine := if windowVisible s ly then s.winLine + 1 else s.winLine } := by
  have hv : windowVisible (renderBg s ly) ly = windowVisible s ly := rfl
  unfold renderWindow
  rw [hv]
  split
  · rename_i hw
    have hr : fbRow (renderBg s ly) ly = bgRow s ly := fbRow_setFbRow_same h _
    have hrow : windowRow (renderBg s ly) (bgRow s ly) = windowRow s (bgRow s ly) := rfl
    rw [hr, hrow]
    simp [setFbRow, renderBg, underRow, hw]
  · rename_i hw
    simp [setFbRow, renderBg, underRow, hw]

/-- Everything `render_line` does: one row and the window counter. -/
theorem renderLine_eq {s : State} {ly : Nat} (h : ly < 144) :
    renderLine s ly =
      { s with
        fb := s.fb.setIfInBounds ly (some (lineRow s ly))
        winLine := if windowVisible s ly then s.winLine + 1 else s.winLine } := by
  unfold renderLine
  rw [renderUnder_eq h]
  generalize hw : (if windowVisible s ly then s.winLine + 1 else s.winLine) = w
  unfold renderSprites
  have he : spritesEnabled { s with fb := s.fb.setIfInBounds ly (some (underRow s ly)), winLine := w } =
      spritesEnabled s := rfl
  rw [he]
  split
  · rename_i hs
    have hr : fbRow { s with fb := s.fb.setIfInBounds ly (some (underRow s ly)), winLine := w } ly = underRow s ly := by
      simp [fbRow, h]
    rw [hr, spriteLayer_congr]
    simp [setFbRow, lineRow, hs]
  · rename_i hs
    simp [lineRow, hs]

/-- Beyond the last line nothing is drawn; no run gets there (notes/assumptions/12.md). -/
theorem renderLine_out {s : State} {ly : Nat} (h : ¬ ly < 144) :
    renderLine s ly = { s with winLine := if windowVisible s ly then s.winLine + 1 else s.winLine } := by
  have hset : ∀ (t : State) (r : Row), setFbRow t ly r = t := fun t r => by
    simp [setFbRow, Vector.setIfInBounds_eq_of_size_le (show 144 ≤ ly by omega)]
  have hs : ∀ t : State, renderSprites t ly = t := fun t => by unfold renderSprites; split <;> simp [hset]
  rw [renderLine, hs, renderBg, hset, renderWindow, hset]
  split <;> rfl

/-- `render_line` changes the framebuffer and the window counter only. -/
theorem renderLine_frame (s : State) (ly : Nat) :
    renderLine s ly = { s with fb := (renderLine s ly).fb, winLine := (renderLine s ly).winLine } := by
  by_cases h : ly < 144
  · rw [renderLine_eq h]
  · rw [renderLine_out h]

end Sys2Proof.Machine
end

