-- ==== Sys2Proof/Laws/Encoding.lean ====
section
/-!
SUPPORT. The fields of an encoded word, and the bus address decode by its cases.
-/

namespace Sys2Proof

@[simp] theorem cmdClass_cmdWord (cls : BitVec 4) (a : Addr) (b : Byte) : cmdClass (cmdWord cls a b) = cls := by
  ext i hi
  simp only [cmdClass, cmdWord, BitVec.getElem_extractLsb', BitVec.getLsbD_append]
  have h1 : ¬ (28 + i < 8) := by omega
  have h2 : ¬ (28 + i - 8 < 16) := by omega
  have h3 : ¬ (28 + i - 8 - 16 < 4) := by omega
  have h4 : 28 + i - 8 - 16 - 4 = i := by omega
  simp only [h1, h2, h3, h4, if_false, BitVec.getLsbD_eq_getElem hi]

@[simp] theorem cmdZero_cmdWord (cls : BitVec 4) (a : Addr) (b : Byte) : cmdZero (cmdWord cls a b) = 0 := by
  ext i hi
  simp only [cmdZero, cmdWord, BitVec.getElem_extractLsb', BitVec.getLsbD_append]
  have h1 : ¬ (24 + i < 8) := by omega
  have h2 : ¬ (24 + i - 8 < 16) := by omega
  have h3 : 24 + i - 8 - 16 < 4 := by omega
  simp [h1, h2, h3]

@[simp] theorem cmdA_cmdWord (cls : BitVec 4) (a : Addr) (b : Byte) : cmdA (cmdWord cls a b) = a := by
  ext i hi
  simp only [cmdA, cmdWord, BitVec.getElem_extractLsb', BitVec.getLsbD_append]
  have h1 : ¬ (8 + i < 8) := by omega
  have h3 : 8 + i - 8 = i := by omega
  simp only [h1, h3, hi, if_false, if_true, BitVec.getLsbD_eq_getElem hi]

@[simp] theorem cmdB_cmdWord (cls : BitVec 4) (a : Addr) (b : Byte) : cmdB (cmdWord cls a b) = b := by
  ext i hi
  simp only [cmdB, cmdWord, BitVec.getElem_extractLsb', BitVec.getLsbD_append]
  simp only [Nat.zero_add, hi, if_true, BitVec.getLsbD_eq_getElem hi]

@[simp] theorem pixelX_pixelOperand (x y : Byte) : pixelX (pixelOperand x y) = x := by
  ext i hi
  have h : ((x ++ y : BitVec (8 + 8))).getLsbD (8 + i) = x.getLsbD i := by
    rw [BitVec.getLsbD_append, if_neg (by omega), show 8 + i - 8 = i by omega]
  simpa [pixelX, pixelOperand, BitVec.getLsbD_eq_getElem hi] using h

@[simp] theorem pixelY_pixelOperand (x y : Byte) : pixelY (pixelOperand x y) = y := by
  ext i hi
  have h : ((x ++ y : BitVec (8 + 8))).getLsbD i = y.getLsbD i := by
    rw [BitVec.getLsbD_append, if_pos hi]
  simpa [pixelY, pixelOperand, BitVec.getLsbD_eq_getElem hi] using h

/-- Operand A of format P is its two coordinates. -/
theorem pixelOperand_fields (a : Addr) : pixelOperand (pixelX a) (pixelY a) = a := by
  ext i hi
  have h : ((pixelX a ++ pixelY a : BitVec (8 + 8))).getLsbD i = a.getLsbD i := by
    rw [BitVec.getLsbD_append]
    split
    · rename_i h8
      rw [pixelY, BitVec.getLsbD_extractLsb', Nat.zero_add]
      simp [h8]
    · rw [pixelX, BitVec.getLsbD_extractLsb', show 8 + (i - 8) = i by omega]
      simp [show i - 8 < 8 by omega]
  simpa [pixelOperand, BitVec.getLsbD_eq_getElem hi] using h

/-- A word is its four fields. -/
theorem cmdWord_fields {w : Cmd} (h : cmdZero w = 0) : cmdWord (cmdClass w) (cmdA w) (cmdB w) = w := by
  rw [cmdWord, ← h]
  ext i hi
  simp only [cmdClass, cmdZero, cmdA, cmdB, BitVec.getElem_append, BitVec.getElem_extractLsb']
  split
  · rw [Nat.zero_add, BitVec.getLsbD_eq_getElem]
  · split
    · rw [show 8 + (i - 8) = i by omega, BitVec.getLsbD_eq_getElem]
    · split
      · rw [show 24 + (i - 8 - 16) = i by omega, BitVec.getLsbD_eq_getElem]
      · rw [show 28 + (i - 8 - 16 - 4) = i by omega, BitVec.getLsbD_eq_getElem]

/-! ## The bus address decode -/

/-- A register found at an address is at that address. -/
theorem regAt_some {c : Config} {a : Addr} {r : RegName} (h : regAt c a = some r) : c.regAddr.get r = a := by
  unfold regAt at h
  repeat' split at h
  all_goals first
    | (injection h with h; subst h; symm; assumption)
    | cases h

/-- No register is at an address outside the eleven. -/
theorem regAt_none {c : Config} {a : Addr} (h : regAt c a = none) : a ∉ c.regAddr.toList := by
  unfold regAt at h
  repeat' split at h
  all_goals first
    | cases h; done
    | (simp only [RegAddrs.toList, List.mem_cons, List.not_mem_nil, or_false, not_or]; tauto)

theorem get_mem_toList (t : RegAddrs) (r : RegName) : t.get r ∈ t.toList := by
  cases r <;> simp [RegAddrs.get, RegAddrs.toList]

/-- Every register address of a good configuration is outside VRAM and OAM. -/
theorem reg_outside {c : Config} (h : c.decodeDisjoint) {a : Addr} (ha : a ∈ c.regAddr.toList) :
    ¬ inVram a ∧ ¬ inOam c a := by
  exact of_decide_eq_true (List.all_eq_true.mp h.2.2.2 a ha)

/-- In a good configuration VRAM and OAM do not meet. -/
theorem vram_oam_disjoint {c : Config} (h : c.decodeDisjoint) {a : Addr} (ho : inOam c a) : ¬ inVram a := by
  obtain ⟨-, hd, -, -⟩ := h
  simp only [inVram, inOam] at *
  omega

/-- The register at its own address, in a good configuration. -/
theorem regAt_get {c : Config} (h : c.decodeDisjoint) (r : RegName) : regAt c (c.regAddr.get r) = some r := by
  have hn := h.2.2.1
  simp only [RegAddrs.toList, List.nodup_cons, List.mem_cons, List.not_mem_nil, or_false, not_or,
    not_false_eq_true, List.nodup_nil, and_true] at hn
  cases r <;> simp only [regAt, RegAddrs.get] <;> simp_all [eq_comm]

/-- R41 for a register address of a good configuration. -/
theorem busTarget_reg {c : Config} (h : c.decodeDisjoint) (r : RegName) :
    busTarget c (c.regAddr.get r) = .reg r := by
  have ho := reg_outside h (get_mem_toList c.regAddr r)
  simp only [busTarget, if_neg ho.1, if_neg ho.2, regAt_get h]

theorem busTarget_vram {c : Config} {a : Addr} (h : inVram a) : busTarget c a = .vram := by
  simp only [busTarget, if_pos h]

theorem busTarget_oam {c : Config} (hc : c.decodeDisjoint) {a : Addr} (h : inOam c a) : busTarget c a = .oam := by
  simp only [busTarget, if_neg (vram_oam_disjoint hc h), if_pos h]

theorem busTarget_unmapped {c : Config} {a : Addr} (h : isUnmapped c a) : busTarget c a = .unmapped := by
  have hr : regAt c a = none := by
    cases hx : regAt c a with
    | none => rfl
    | some r => exact absurd (regAt_some hx ▸ get_mem_toList c.regAddr r) h.2.2
  simp only [busTarget, if_neg h.1, if_neg h.2.1, hr]

/-- Everything the bus decode can answer. -/
theorem busTarget_cases (c : Config) (a : Addr) :
    (busTarget c a = .vram ∧ inVram a) ∨ (busTarget c a = .oam ∧ ¬ inVram a ∧ inOam c a) ∨
    (∃ r, busTarget c a = .reg r ∧ c.regAddr.get r = a) ∨ (busTarget c a = .unmapped ∧ isUnmapped c a) := by
  by_cases hv : inVram a
  · exact .inl ⟨busTarget_vram hv, hv⟩
  · by_cases ho : inOam c a
    · exact .inr (.inl ⟨by simp only [busTarget, if_neg hv, if_pos ho], hv, ho⟩)
    · cases hr : regAt c a with
      | some r => exact .inr (.inr (.inl ⟨r, by simp only [busTarget, if_neg hv, if_neg ho, hr], regAt_some hr⟩))
      | none =>
        exact .inr (.inr (.inr ⟨by simp only [busTarget, if_neg hv, if_neg ho, hr], hv, ho, regAt_none hr⟩))

/-! ## Bus words and their rows -/

/-- A class 0 word with operand B 0 decodes to the row of its address. -/
theorem decode_rdWord (c : Config) (a : Addr) : decode c (rdWord a) = .ok (rdRow c a) := by
  simp [decode, rdWord, requireZero]

/-- A class 1 word decodes to the row of its address. -/
theorem decode_wrWord (c : Config) (a : Addr) (v : Byte) : decode c (wrWord a v) = .ok (wrRow c a v) := by
  simp [decode, wrWord]

/-- The row of an address is encoded with that address. -/
theorem encode_rdRow (c : Config) (a : Addr) : encode c (rdRow c a) = rdWord a := by
  rcases busTarget_cases c a with ⟨h, -⟩ | ⟨h, -⟩ | ⟨r, h, rfl⟩ | ⟨h, -⟩ <;> rw [rdRow, h] <;> try rfl
  cases r <;> rfl

theorem encode_wrRow (c : Config) (a : Addr) (v : Byte) : encode c (wrRow c a v) = wrWord a v := by
  rcases busTarget_cases c a with ⟨h, -⟩ | ⟨h, -⟩ | ⟨r, h, rfl⟩ | ⟨h, -⟩ <;> rw [wrRow, h] <;> try rfl
  cases r <;> rfl

/-- The row of an address is well formed. -/
theorem wellFormed_rdRow (c : Config) (a : Addr) : wellFormed c (rdRow c a) = true := by
  rcases busTarget_cases c a with ⟨h, h2⟩ | ⟨h, -, h2⟩ | ⟨r, h, rfl⟩ | ⟨h, h2⟩ <;> rw [rdRow, h]
  · simpa [wellFormed] using h2
  · simpa [wellFormed] using h2
  · cases r <;> rfl
  · exact decide_eq_true h2

theorem wellFormed_wrRow (c : Config) (a : Addr) (v : Byte) : wellFormed c (wrRow c a v) = true := by
  rcases busTarget_cases c a with ⟨h, h2⟩ | ⟨h, -, h2⟩ | ⟨r, h, rfl⟩ | ⟨h, h2⟩ <;> rw [wrRow, h]
  · simpa [wellFormed] using h2
  · simpa [wellFormed] using h2
  · cases r <;> rfl
  · exact decide_eq_true h2

end Sys2Proof
end

