-- ==== Sys2Proof/Laws/Sequencer.lean ====
section
/-!
SUPPORT. What the sequencer's procedures and the shared operations can do, each said once.
-/

namespace Sys2Proof.Machine

/-- `enter_oamscan` under the per-line policy or on line 0: the records are rebuilt (R220). -/
theorem enterOamScan_scans {s : State} (h : s.cfg.oamScanPolicy = .perLine ∨ s.ly = 0) :
    enterOamScan s = { s with mode := .oamScan, spr := some (Vector.ofFn (scanSprite s)) } := by
  simp only [enterOamScan, if_pos h]; rfl

/-- `enter_oamscan` otherwise: the records are kept (R147). -/
theorem enterOamScan_keeps {s : State} (h : ¬(s.cfg.oamScanPolicy = .perLine ∨ s.ly = 0)) :
    enterOamScan s = { s with mode := .oamScan } := by
  simp only [enterOamScan, if_neg h]

/-- A scan reads OAM and the configuration only (R145). -/
theorem scanSprite_congr {s t : State} (ho : t.oam = s.oam) (he : t.epoch = s.epoch) (hc : t.cfg = s.cfg) :
    scanSprite t = scanSprite s := by
  funext k; simp [scanSprite, oamRead_congr ho he, hc]

/-- Everything `lcd_on` does: LY is 0, so the records are rebuilt under both policies (R197, R220). -/
theorem lcdOnState_eq (s : State) :
    lcdOnState s =
      { s with ly := 0, lycMatch := 0 == s.lyc, winLine := 0, mode := .oamScan,
               spr := some (Vector.ofFn (scanSprite s)) } := by
  rw [lcdOnState, enterOamScan_scans (.inr rfl), scanSprite_congr (s := s) rfl rfl rfl]
  rfl

/-- The records after a scan (R145). -/
theorem sprites_scanned {s : State} {v : Vector Sprite 40} (h : s.spr = some v) : sprites s = v := by
  simp [sprites, h]

/-- The records of a scan carry their slot (R29, clause 6). -/
theorem scanSprite_slot (s : State) (k : Fin 40) : (scanSprite s k).slot = k := rfl

/-- The two outcomes of the `lyc_irq` of a WR.LCDC (R171). -/
theorem answerLcdcIrq_false (s : State) : answerLcdcIrq s false = { s with resp := .lycIrq false } := rfl

theorem answerLcdcIrq_true (s : State) :
    answerLcdcIrq s true =
      { s with resp := .lycIrq (Config.freeIrq s.irqDraws), irqDraws := s.irqDraws + 1 } := rfl

/-- WR.LCDC, said once: no toggle, on to off, off to on (R171). -/
theorem execWrLcdc_cases (v : Byte) (s : State) :
    (bit v s.cfg.lcdcLcdEn = s.lcdOn ∧ execWrLcdc v s = .next { storeLcdc v s with resp := .lycIrq false }) ∨
    (s.lcdOn = true ∧ bit v s.cfg.lcdcLcdEn = false ∧
      execWrLcdc v s = .next (answerLcdcIrq (lcdOff (storeLcdc v s)) (setLyFires s 0))) ∨
    (s.lcdOn = false ∧ bit v s.cfg.lcdcLcdEn = true ∧
      execWrLcdc v s = .next (answerLcdcIrq (lcdOnState (storeLcdc v s)) (setLyFires s 0))) := by
  cases h1 : s.lcdOn <;> cases h2 : bit v s.cfg.lcdcLcdEn <;> simp [execWrLcdc, h1, h2, answerLcdcIrq]

/-- MODE_DONE, said once: the LCD off, or one case for each mode (R210). -/
theorem execModeDone_cases (s : State) :
    (s.lcdOn = false ∧ execModeDone s = .next { s with resp := .lycIrq false }) ∨
    (s.lcdOn = true ∧ s.mode = .oamScan ∧ execModeDone s = modeDoneOamScan s) ∨
    (s.lcdOn = true ∧ s.mode = .drawing ∧ execModeDone s = .next { s with mode := .hblank, resp := .lycIrq false }) ∨
    (s.lcdOn = true ∧ s.mode = .hblank ∧ execModeDone s = modeDoneHBlank s) ∨
    (s.lcdOn = true ∧ s.mode = .vblank ∧ execModeDone s = modeDoneVBlank s) := by
  cases h1 : s.lcdOn <;> cases h2 : s.mode <;> simp [execModeDone, h1, h2, modeDoneDrawing]

/-- A step on a good configuration with a command pending is that command. -/
theorem step_cons {s : State} {w : Cmd} {rest : List Cmd} (hc : s.cfg.wf) (hw : s.cmds = w :: rest) :
    step s = stepWord w { s with cmds := rest } := by
  simp only [step, if_pos hc, hw]

end Sys2Proof.Machine
end

