-- ==== Sys2Proof/Laws/PerInstr.lean ====
section
/-!
SUPPORT. Facts about every instruction as syntax, one lemma for each constructor. Family `EncodeHeader`: the encoder
writes a class of 30_encoding.md R60 and leaves `cmd[27:24]` at 0 (R61).
-/

namespace Sys2Proof.Laws.EncodeHeader

/-- The header of the word an instruction is encoded to. -/
def Statement (i : Instr) : Prop :=
  ∀ c : Config, cmdZero (encode c i) = 0 ∧ (cmdClass (encode c i)).toNat ≤ 5

theorem rdWord_header (a : Addr) : cmdZero (rdWord a) = 0 ∧ (cmdClass (rdWord a)).toNat ≤ 5 := by simp [rdWord]

theorem wrWord_header (a : Addr) (v : Byte) : cmdZero (wrWord a v) = 0 ∧ (cmdClass (wrWord a v)).toNat ≤ 5 := by
  simp [wrWord]

theorem rdVram (a : Addr) : Statement (.rdVram a) := fun _ => rdWord_header _
theorem wrVram (a : Addr) (v : Byte) : Statement (.wrVram a v) := fun _ => wrWord_header _ _
theorem rdOam (a : Addr) : Statement (.rdOam a) := fun _ => rdWord_header _
theorem wrOam (a : Addr) (v : Byte) : Statement (.wrOam a v) := fun _ => wrWord_header _ _
theorem rdLcdc : Statement .rdLcdc := fun _ => rdWord_header _
theorem wrLcdc (v : Byte) : Statement (.wrLcdc v) := fun _ => wrWord_header _ _
theorem rdStat : Statement .rdStat := fun _ => rdWord_header _
theorem wrStat (v : Byte) : Statement (.wrStat v) := fun _ => wrWord_header _ _
theorem rdScy : Statement .rdScy := fun _ => rdWord_header _
theorem wrScy (v : Byte) : Statement (.wrScy v) := fun _ => wrWord_header _ _
theorem rdScx : Statement .rdScx := fun _ => rdWord_header _
theorem wrScx (v : Byte) : Statement (.wrScx v) := fun _ => wrWord_header _ _
theorem rdLy : Statement .rdLy := fun _ => rdWord_header _
theorem wrLy (v : Byte) : Statement (.wrLy v) := fun _ => wrWord_header _ _
theorem rdLyc : Statement .rdLyc := fun _ => rdWord_header _
theorem wrLyc (v : Byte) : Statement (.wrLyc v) := fun _ => wrWord_header _ _
theorem rdBgp : Statement .rdBgp := fun _ => rdWord_header _
theorem wrBgp (v : Byte) : Statement (.wrBgp v) := fun _ => wrWord_header _ _
theorem rdObp0 : Statement .rdObp0 := fun _ => rdWord_header _
theorem wrObp0 (v : Byte) : Statement (.wrObp0 v) := fun _ => wrWord_header _ _
theorem rdObp1 : Statement .rdObp1 := fun _ => rdWord_header _
theorem wrObp1 (v : Byte) : Statement (.wrObp1 v) := fun _ => wrWord_header _ _
theorem rdWy : Statement .rdWy := fun _ => rdWord_header _
theorem wrWy (v : Byte) : Statement (.wrWy v) := fun _ => wrWord_header _ _
theorem rdWx : Statement .rdWx := fun _ => rdWord_header _
theorem wrWx (v : Byte) : Statement (.wrWx v) := fun _ => wrWord_header _ _
theorem modeDone : Statement .modeDone := fun _ => by simp [encode]
theorem getPixel (x y : Byte) : Statement (.getPixel x y) := fun _ => by simp [encode]
theorem snapshot : Statement .snapshot := fun _ => by simp [encode]
theorem reset : Statement .reset := fun _ => by simp [encode]
theorem rdUnmapped (a : Addr) : Statement (.rdUnmapped a) := fun _ => rdWord_header _
theorem wrUnmapped (a : Addr) (v : Byte) : Statement (.wrUnmapped a v) := fun _ => wrWord_header _ _

end Sys2Proof.Laws.EncodeHeader
end

