-- ==== Sys2Proof/Tests/Slice0.lean ====
section
/-!
SUPPORT. Tests and witnesses. The expected values come from the spec: its encodings (30_encoding.md), its examples and
its vectors (95_test_vectors.md); the comment of a test names the place. Each `witness_<Name>` shows values that meet
all hypotheses of the obligation `<Name>`.
-/

namespace Sys2Proof.Tests

open Sys2Proof Sys2Proof.Machine

/-! ## Small states -/

/-- The state an operation leaves. -/
def after (i : Instr) (s : State) : State :=
  match exec i s with
  | .next t => t
  | _ => s

/-- Forty records of sprites parked above the screen: OAM bytes 0. -/
def parked : Vector Sprite 40 := Vector.ofFn fun k => spriteOf Config.default k 0 0 0 0

/-- The LCD just turned on with `WR.LCDC 0x91`, no sprite on any line. -/
def lit : State := { State.reset with lcdc := 0x91, mode := .oamScan, spr := some parked }

/-- `lit` with chosen records in front of the parked ones. -/
def litWith (sps : List Sprite) : State :=
  { lit with spr := some (Vector.ofFn fun k => (sps[k.val]?).getD (spriteOf Config.default k 0 0 0 0)) }

/-- The same byte at `n` indices from `base` on. -/
def run (v : Byte) : Nat → Nat → Memory
  | _, 0 => []
  | base, n + 1 => (base, v) :: run v (base + 1) n

theorem readCell_run (v : Byte) {base n i : Nat} (h : base ≤ i) (h2 : i < base + n) :
    (run v base n).readCell i = some v := by
  induction n generalizing base with
  | zero => omega
  | succ n ih =>
    simp only [run, Memory.readCell]
    split
    · rfl
    · exact ih (by omega) (by omega)

/-! ## Well-formedness: an ill-formed term for each check (R63) -/

theorem test_wellFormed_rdVram : wellFormed Config.default (.rdVram 0x7FFF) = false ∧
    wellFormed Config.default (.rdVram 0x8000) = true ∧ wellFormed Config.default (.rdVram 0x9FFF) = true := by decide

theorem test_wellFormed_wrVram : wellFormed Config.default (.wrVram 0xA000 1) = false ∧
    wellFormed Config.default (.wrVram 0x9FFF 1) = true := by decide

theorem test_wellFormed_rdOam : wellFormed Config.default (.rdOam 0xFEA0) = false ∧
    wellFormed Config.default (.rdOam 0xFE9F) = true := by decide

theorem test_wellFormed_wrOam : wellFormed Config.default (.wrOam 0xFDFF 1) = false ∧
    wellFormed Config.default (.wrOam 0xFE00 1) = true := by decide

theorem test_wellFormed_rdUnmapped : wellFormed Config.default (.rdUnmapped 0xFF40) = false ∧
    wellFormed Config.default (.rdUnmapped 0x8000) = false ∧ wellFormed Config.default (.rdUnmapped 0xFF46) = true := by
  decide

theorem test_wellFormed_wrUnmapped : wellFormed Config.default (.wrUnmapped 0xFE9F 1) = false ∧
    wellFormed Config.default (.wrUnmapped 0xFFFF 1) = true := by decide

/-- U7: register addresses inside VRAM or equal, OAM over VRAM, a STAT mask with a low bit or without the LYC enable, a
table that leaves VRAM, a map that does. The model's own refusals: a reset state with the LCD on (log 19), OAM past
0xFFFF (log 3), a darkest index that is not 3 (log 18). -/
def badConfigs : List Config :=
  [{ Config.default with regAddr := { RegAddrs.default with wx := 0x8000 } },
   { Config.default with regAddr := { RegAddrs.default with wx := 0xFF4A } },
   { Config.default with oamBase := 0x9F80 },
   { Config.default with statWmask := 0x7C },
   { Config.default with statWmask := 0x38 },
   { Config.default with tileBaseSigned := 0x9900 },
   { Config.default with mapBBase := 0x9C01 },
   { Config.default with resetState := { ResetState.zero with lcdc := 0x80 } },
   { Config.default with oamBase := 0xFF61 },
   { Config.default with darkest := 2 }]

theorem test_config_refused : ∀ c ∈ badConfigs, ¬ c.wf := by decide

/-- The document-literal instantiation of C1, with the other scan policy. -/
def literalConfig : Config := { Config.default with statWmask := 0x38, lycIeBit := 5, oamScanPolicy := .perFrame }

theorem test_config_literal : literalConfig.wf := by decide

/-! ## Decoding: words written out from 30_encoding.md R61 (class 4 bits, zero 4 bits, A 16 bits, B 8 bits) -/

theorem test_decode_memory_rows :
    decode Config.default 0b0000_0000_1000000000000000_00000000 = .ok (.rdVram 0x8000) ∧
    decode Config.default 0b0000_0000_1001111111111111_00000000 = .ok (.rdVram 0x9FFF) ∧
    decode Config.default 0b0001_0000_1000000000010000_00111100 = .ok (.wrVram 0x8010 0x3C) ∧
    decode Config.default 0b0000_0000_1111111000000000_00000000 = .ok (.rdOam 0xFE00) ∧
    decode Config.default 0b0000_0000_1111111010011111_00000000 = .ok (.rdOam 0xFE9F) ∧
    decode Config.default 0b0001_0000_1111111000001000_00010000 = .ok (.wrOam 0xFE08 16) ∧
    decode Config.default 0b0000_0000_1111111010100000_00000000 = .ok (.rdUnmapped 0xFEA0) ∧
    decode Config.default 0b0001_0000_1111111101000110_00010010 = .ok (.wrUnmapped 0xFF46 0x12) := by decide

/-- The eleven register addresses of R11, class 0. -/
theorem test_decode_register_reads :
    decode Config.default 0x00FF4000 = .ok .rdLcdc ∧ decode Config.default 0x00FF4100 = .ok .rdStat ∧
    decode Config.default 0x00FF4200 = .ok .rdScy ∧ decode Config.default 0x00FF4300 = .ok .rdScx ∧
    decode Config.default 0x00FF4400 = .ok .rdLy ∧ decode Config.default 0x00FF4500 = .ok .rdLyc ∧
    decode Config.default 0x00FF4700 = .ok .rdBgp ∧ decode Config.default 0x00FF4800 = .ok .rdObp0 ∧
    decode Config.default 0x00FF4900 = .ok .rdObp1 ∧ decode Config.default 0x00FF4A00 = .ok .rdWy ∧
    decode Config.default 0x00FF4B00 = .ok .rdWx := by decide

/-- The eleven register addresses of R11, class 1 (words of programs P1 to P4). -/
theorem test_decode_register_writes :
    decode Config.default 0x10FF4091 = .ok (.wrLcdc 0x91) ∧ decode Config.default 0x10FF41FF = .ok (.wrStat 0xFF) ∧
    decode Config.default 0x10FF42AB = .ok (.wrScy 0xAB) ∧ decode Config.default 0x10FF43CD = .ok (.wrScx 0xCD) ∧
    decode Config.default 0x10FF4455 = .ok (.wrLy 0x55) ∧ decode Config.default 0x10FF4505 = .ok (.wrLyc 5) ∧
    decode Config.default 0x10FF47E4 = .ok (.wrBgp 0xE4) ∧ decode Config.default 0x10FF48FF = .ok (.wrObp0 0xFF) ∧
    decode Config.default 0x10FF491B = .ok (.wrObp1 0x1B) ∧ decode Config.default 0x10FF4A02 = .ok (.wrWy 2) ∧
    decode Config.default 0x10FF4BA7 = .ok (.wrWx 167) := by decide

theorem test_decode_other_classes :
    decode Config.default 0b0010_0000_0000000000000000_00000000 = .ok .modeDone ∧
    decode Config.default 0b0011_0000_1001111110001111_00000000 = .ok (.getPixel 159 143) ∧
    decode Config.default 0b0100_0000_0000000000000000_00000000 = .ok .snapshot ∧
    decode Config.default 0b0101_0000_0000000000000000_00000000 = .ok .reset := by decide

/-- B8.11, and the highest class. -/
theorem test_decode_reserved :
    decode Config.default 0x60000000 = .error (.classField 6) ∧
    decode Config.default 0x01FF4400 = .error .zeroField ∧
    decode Config.default 0x00FF4401 = .error .operandField ∧
    decode Config.default 0x20000001 = .error .operandField ∧
    decode Config.default 0x30000001 = .error .operandField ∧
    decode Config.default 0x40000100 = .error .operandField ∧
    decode Config.default 0xF0000000 = .error (.classField 15) := by decide

theorem test_step_refuses_reserved :
    step (State.reset.withFetchWord 32 0x60000000) = .refused (.reservedWord (.classField 6)) := rfl

theorem test_step_runs_first_word :
    step (State.reset.withFetchWord 32 0x10FF4391) = .next { State.reset with scx := 0x91, resp := .lycIrq false } := rfl

/-! ## Textual syntax (R66, R67) -/

theorem test_text_operations :
    assemble Config.default "RD   0xFF44            ; generic form" = some [.rdLy] ∧
    assemble Config.default "WR   0xFF40, 0x91" = some [.wrLcdc 0x91] ∧
    assemble Config.default "RD.LY" = some [.rdLy] ∧
    assemble Config.default "WR.LCDC 0x91" = some [.wrLcdc 0x91] ∧
    assemble Config.default "WR.VRAM 0x8010, 0x3C" = some [.wrVram 0x8010 0x3C] ∧
    assemble Config.default "WR.OAM  0xFE00, 16" = some [.wrOam 0xFE00 16] ∧
    assemble Config.default "GETPIXEL 0, 0" = some [.getPixel 0 0] ∧
    assemble Config.default "WR.OAM 0x8000, 16" = none := by decide

theorem test_text_pseudo :
    assemble Config.default "LINE" = some [.modeDone, .modeDone, .modeDone] ∧
    assemble Config.default "FILL 0xFE9F, 2, 0x00" = some [.wrOam 0xFE9F 0, .wrUnmapped 0xFEA0 0] ∧
    assemble Config.default "SPRITE 2, 16, 32, 3, 0x00" =
      some [.wrOam 0xFE08 16, .wrOam 0xFE09 32, .wrOam 0xFE0A 3, .wrOam 0xFE0B 0] := by decide

/-! ## Registers (B7) -/

/-- B7, first row: STAT reads 0x04 after RESET. -/
theorem test_rdStat_reset : (after .rdStat State.reset).resp = .rdata 0x04 := by decide

/-- B7, second row, both instantiations of C1. -/
theorem test_wrStat_masks :
    (after .rdStat (after (.wrStat 0xFF) State.reset)).resp = .rdata 0x7C ∧
    (after .rdStat (after (.wrStat 0xFF) { State.reset with cfg := literalConfig })).resp = .rdata 0x3C := by
  decide

/-- B7: the stale match after `WR.LYC 5`. -/
theorem test_wrLyc_stale : (after (.wrLyc 5) State.reset).lycMatch = true := by decide

/-- R179's example. -/
theorem test_wrLy_ignored : (after (.wrLy 0) { lit with ly := 57 }).ly = 57 := by decide

/-- B7: `WR.LCDC 0x80` with LYC 5 answers 0 and leaves mode 2 and no match. -/
theorem test_lcd_on : (after (.wrLcdc 0x80) { State.reset with lyc := 5 }).mode = .oamScan ∧
    (after (.wrLcdc 0x80) { State.reset with lyc := 5 }).lycMatch = false ∧
    (after (.wrLcdc 0x80) { State.reset with lyc := 5 }).resp = .lycIrq false := by decide

/-- R171's example: `WR.LCDC 0x11` turns the LCD off. -/
theorem test_lcd_off : (after (.wrLcdc 0x11) { lit with ly := 7, mode := .drawing }).ly = 0 ∧
    (after (.wrLcdc 0x11) { lit with ly := 7, mode := .drawing }).mode = .hblank := by decide

/-- P3: `WR.LCDC 0xD1` keeps `win_line` 2, the next `WR.LCDC 0xF1` zeroes it. -/
theorem test_window_counter_reset :
    (after (.wrLcdc 0xD1) { lit with lcdc := 0xF1, winLine := 2 }).winLine = 2 ∧
    (after (.wrLcdc 0xF1) { lit with lcdc := 0xD1, winLine := 2 }).winLine = 0 := by decide

/-! ## The mode machine (B8) -/

/-- B8.8 and B8.3: line 143 ends in V-Blank, with the signal for LYC 144. -/
theorem test_modeDone_to_vblank :
    (after .modeDone { lit with ly := 143, mode := .hblank, lyc := 144, ie := 0x40 }).ly = 144 ∧
    (after .modeDone { lit with ly := 143, mode := .hblank, lyc := 144, ie := 0x40 }).mode = .vblank ∧
    (after .modeDone { lit with ly := 143, mode := .hblank, lyc := 144, ie := 0x40 }).resp = .lycIrq true := by decide

/-- B8.9: the tenth V-Blank line wraps to line 0, mode 2. -/
theorem test_modeDone_wraps :
    (after .modeDone { lit with ly := 153, mode := .vblank, winLine := 4 }).ly = 0 ∧
    (after .modeDone { lit with ly := 153, mode := .vblank, winLine := 4 }).mode = .oamScan ∧
    (after .modeDone { lit with ly := 153, mode := .vblank, winLine := 4 }).winLine = 0 := by decide

/-! ## Rendering -/

/-- Row 0 of tiles 1 (raw 1) and 3 (raw 3), and row 0 of map A: entry 0 is tile 3, the others tile 1 (B4). -/
def bgLine : State :=
  { lit with bgp := 0xE4, scx := 3,
             vram := [(0x10, 0xFF), (0x11, 0x00), (0x30, 0xFF), (0x31, 0xFF), (0x1800, 3)] ++ run 1 0x1801 31 }

set_option maxRecDepth 100000 in
/-- B4, `WR.SCX 3`: `3x5 1x155`. -/
theorem test_render_background :
    [0, 4, 5, 159].map (fun x => pixelAt (after .modeDone bgLine) x 0) = [3, 3, 1, 1] := by decide +kernel

/-- Window row 3 is raw 1, the background raw 0 (P3, line 8: WY 0, WX 166, `win_line` 3). -/
def windowLine : State :=
  { lit with lcdc := 0xF1, bgp := 0xE4, ly := 8, wx := 166, winLine := 3,
             vram := [(0x00, 0x00), (0x01, 0x00), (0x106, 0xFF), (0x107, 0x00)] ++ run 0 0x1820 32 ++ [(0x1C00, 0x10)] }

set_option maxRecDepth 100000 in
/-- P3, line 8: `0x159 1x1`, and the counter goes to 4. -/
theorem test_render_window :
    [0, 158, 159].map (fun x => pixelAt (after .modeDone windowLine) x 8) = [0, 0, 1] ∧
    (after .modeDone windowLine).winLine = 4 := by decide +kernel

/-- B6.10: slot 0 with the priority flag over slot 1's shade 1; the line is otherwise blank. -/
def priorityLine : State :=
  { litWith [spriteOf Config.default 0 16 8 4 0x80, spriteOf Config.default 1 16 12 3 0] with
    lcdc := 0x90, obp0 := 0xE4, vram := [(0x30, 0xFF), (0x31, 0x00), (0x40, 0xFF), (0x41, 0xFF)] }

set_option maxRecDepth 100000 in
/-- B6.10: `3x4 1x8 0x148`. -/
theorem test_render_sprite_priority :
    [0, 3, 4, 11, 12].map (fun x => pixelAt (after .modeDone priorityLine) x 0) = [3, 3, 1, 1, 0] := by decide +kernel

/-- A 16-pixel sprite of tile 5, flipped vertically, on row 0: tile row 7 of tile 5, raw 3 (section B6). -/
def tallFlipLine : State :=
  { litWith [spriteOf Config.default 0 16 8 5 0x40] with
    lcdc := 0x94, obp0 := 0xE4, vram := [(0x5E, 0xFF), (0x5F, 0xFF)] }

set_option maxRecDepth 100000 in
/-- Section B6, vertical flip: column 0 of row 0 is 3. -/
theorem test_render_tall_flip : pixelAt (after .modeDone tallFlipLine) 0 0 = 3 := by decide +kernel

/-- T4, B6.4: of fifteen sprites the ten of lowest X, slots 14 down to 5. -/
def crowded : State := litWith ((List.finRange 15).map fun k =>
  spriteOf Config.default (Fin.ofNat 40 k.val) 16 (BitVec.ofNat 8 (8 + 8 * (14 - k.val))) 3 0)

theorem test_sprite_cap : (priorityList crowded 0).map (fun sp => sp.slot.val) = [14, 13, 12, 11, 10, 9, 8, 7, 6, 5] := by
  decide +kernel

/-! ## Pure functions (B1, B2, B3) -/

/-- R81's example row. -/
theorem test_tile_row : (List.range 8).map (tileRowPixel 0x3C 0x7E) = [0, 2, 3, 3, 3, 3, 2, 0] := by decide

/-- B1, the clamp: the row `7 0 0 0 0 0 0 4` is `0x81, 0x81`. -/
theorem test_encode_clamp : planeByte #v[7, 0, 0, 0, 0, 0, 0, 4] 0 = 0x81 ∧ planeByte #v[7, 0, 0, 0, 0, 0, 0, 4] 1 = 0x81 ∧
    planeByte #v[0, 1, 2, 3, 3, 2, 1, 0] 0 = 0x5A ∧ planeByte #v[0, 1, 2, 3, 3, 2, 1, 0] 1 = 0x3C := by decide

/-- B2, tile and map addresses. -/
theorem test_tile_addresses :
    tileAddress Config.default 0x80 false = 0x8800 ∧ tileAddress Config.default 0x80 true = 0x8800 ∧
    tileAddress Config.default 0x7F true = 0x97F0 ∧ tileAddress Config.default 0x00 true = 0x9000 ∧
    tileMapAddress Config.default 5 2 false = 0x9845 ∧ tileMapAddress Config.default 31 31 true = 0x9FFF := by decide

/-- R114: entry 3, and 4 clamped to it. -/
theorem test_display_color : toDisplayColor Config.default 3 .green = ⟨15, 56, 15⟩ ∧
    toDisplayColor Config.default 4 .grayscale = ⟨0, 0, 0⟩ := by decide

/-- B3. -/
theorem test_palette : decodePalette 0x1B = #v[3, 2, 1, 0] ∧ decodePalette 0xD2 = #v[2, 0, 1, 3] := by decide

/-- B8.10. -/
theorem test_getPixel_off_screen :
    (after (.getPixel 160 0) lit).resp = .px 0 ∧ (after (.getPixel 0 144) lit).resp = .px 0 := by decide

/-! ## Witnesses -/

theorem default_wf : Config.default.wf := by decide

/-- The reset state is good. -/
theorem reset_inv : State.reset.Inv :=
  { ly_range := by decide
    lcd_off := fun _ => ⟨rfl, rfl⟩
    visible_line := by decide
    vblank_line := by decide
    win_range := by decide
    slots := by rintro v h; cases h
    cfg_wf := default_wf
    ie_masked := by decide
    win_bound := by decide
    scanned := by decide
    vram_wf := by decide
    vram_range := by decide
    oam_wf := by decide
    oam_range := by decide }

/-- So is a lit one. -/
theorem lit_inv : lit.Inv :=
  { ly_range := by decide
    lcd_off := by decide
    visible_line := by decide
    vblank_line := by decide
    win_range := by decide
    slots := by rintro v ⟨⟩ k; simp [parked, spriteOf]
    cfg_wf := default_wf
    ie_masked := by decide
    win_bound := by decide
    scanned := by decide
    vram_wf := by decide
    vram_range := by decide
    oam_wf := by decide
    oam_range := by decide }

theorem parked_covers_none : ∀ (h : Int) (ly : Nat) (k : Fin 40), h ≤ 16 → ¬ parked[k].covers h ly := by
  intro h ly k hh
  simp only [parked, Fin.getElem_fin, Vector.getElem_ofFn, spriteOf, Sprite.covers]
  simp
  omega

theorem witness_EncodeThenDecodeGivesInstr : ∀ i ∈ [Instr.rdVram 0x8000, .rdVram 0x9FFF, .wrVram 0x9FFF 7, .rdOam 0xFE00,
    .wrOam 0xFE9F 1, .rdUnmapped 0xFF46, .wrUnmapped 0x7FFF 0, .wrLcdc 0xFF, .getPixel 255 255, .modeDone],
    Config.default.wf ∧ wellFormed Config.default i = true := by decide

theorem witness_DecodeThenEncodeGivesWord :
    Config.default.wf ∧ decode Config.default 0x10FF4091 = .ok (.wrLcdc 0x91) := by decide

/-- One word for each way to be reserved, and one pending. -/
theorem witness_ReservedWordsAreRefused :
    [0x60000000, 0xF0000000, 0x0F000000, 0x00000001, 0x300000FF, 0x20800000, 0x40000001, 0x50000100].map
      (fun w => (decode Config.default w).toOption) = List.replicate 8 none ∧
    ∃ (s : State) (w : Cmd) (rest : List Cmd) (why : Reserved), s.cfg.wf ∧ s.cmds = w :: rest ∧
      decode s.cfg w = .error why :=
  ⟨by decide +kernel, { lit with cmds := [0x01FF4400] }, 0x01FF4400, [], .zeroField, default_wf, rfl, rfl⟩

/-- A boundary of every range, and a refused configuration. -/
theorem witness_AddressSelectsOneTarget :
    Config.default.wf ∧ busTarget Config.default 0x7FFF = .unmapped ∧ busTarget Config.default 0x8000 = .vram ∧
    busTarget Config.default 0x9FFF = .vram ∧ busTarget Config.default 0xA000 = .unmapped ∧
    busTarget Config.default 0xFE00 = .oam ∧ busTarget Config.default 0xFE9F = .oam ∧
    busTarget Config.default 0xFEA0 = .unmapped ∧ busTarget Config.default 0xFF40 = .reg .lcdc ∧
    busTarget Config.default 0xFF4B = .reg .wx ∧ busTarget Config.default 0xFF46 = .unmapped ∧
    ¬ ({ State.reset with cfg := { Config.default with oamBase := 0x9F80 } } : State).cfg.decodeDisjoint := by decide

theorem witness_StepRunsDecodedInstr :
    State.reset.cfg.wf ∧ ({ State.reset with cmds := [0x00FF4400] } : State).cmds = 0x00FF4400 :: [] ∧
    decode State.reset.cfg 0x00FF4400 = .ok .rdLy ∧ decode State.reset.cfg (BitVec.ofNat 32 0x20000000) = .ok .modeDone ∧
    State.reset.cmds = [] := by decide

theorem witness_ResetStateIsGood : Config.default.wf ∧
    literalConfig.wf := by decide

/-- A good state, and a step from it that is no idle one. -/
theorem witness_StepKeepsGoodState :
    ∃ s t : State, s.Inv ∧ s.cmds ≠ [] ∧ step s = .next t ∧ t.mode = .oamScan :=
  ⟨{ State.reset with cmds := [0x10FF4091] }, _, ⟨⟨by decide, fun _ => ⟨rfl, rfl⟩, by decide, by decide, by decide,
    by rintro v h; cases h⟩, default_wf, by decide, by decide, by decide, by decide, by decide, by decide, by decide⟩,
    by decide, rfl, rfl⟩

theorem witness_InvariantsHoldAfterReset :
    ∃ (s t : State) (ops : List Instr), s.cfg.wf ∧ execList (.reset :: ops) s = .next t ∧ t.mode = .drawing :=
  ⟨lit, _, [.wrLcdc 0x80, .modeDone], default_wf, rfl, rfl⟩

theorem witness_StatReadIsAssembled : lit.cfg.wf ∧ lit.cfg.statWmask = 0x78 := by decide

/-- Both masks of the rule's example. -/
theorem witness_StatWriteKeepsMaskedBits :
    (∃ t, lit.mode = .oamScan ∧ lit.lycMatch = true ∧ exec (.wrStat 0xFF) lit = .next t ∧ lit.cfg.statWmask = 0x78) ∧
    ∃ s t : State, s.mode = .oamScan ∧ s.lycMatch = true ∧ exec (.wrStat 0xFF) s = .next t ∧ s.cfg.statWmask = 0x38 ∧
      s.cfg.wf :=
  ⟨⟨_, rfl, rfl, rfl, rfl⟩,
    { lit with cfg := literalConfig }, _, rfl, rfl, rfl, rfl, by decide⟩

/-- R181's example. -/
theorem witness_LycWriteMakesNoComparison :
    ∃ s t u : State, s.lcdOn = true ∧ s.mode = .hblank ∧ s.ly.toNat ≤ 143 ∧ exec (.wrLyc 11) s = .next t ∧
      exec .modeDone t = .next u ∧ t.lycMatch = true ∧ u.ly = 11 :=
  ⟨{ lit with mode := .hblank, ly := 10, lyc := 10, lycMatch := true }, _, _, rfl, rfl, by decide, rfl, rfl, rfl, rfl⟩

/-- No toggle, on to off, off to on. -/
theorem witness_LcdcWriteEffects :
    bit 0x93 lit.cfg.lcdcLcdEn = lit.lcdOn ∧ bit 0x00 State.reset.cfg.lcdcLcdEn = State.reset.lcdOn ∧
    (lit.lcdOn = true ∧ bit 0x11 lit.cfg.lcdcLcdEn = false) ∧
    (State.reset.lcdOn = false ∧ bit 0x91 State.reset.cfg.lcdcLcdEn = true) := by decide

theorem witness_WindowEnableResetsCounter :
    (∃ t, exec (.wrLcdc 0xF1) { lit with winLine := 5 } = .next t ∧ bit lit.lcdc lit.cfg.lcdcWinEn = false) ∧
    (∃ t u, exec (.wrLcdc 0xD1) { lit with lcdc := 0xF1, winLine := 5 } = .next t ∧ exec (.wrLcdc 0xF1) t = .next u ∧
      bit 0xD1 lit.cfg.lcdcWinEn = false) ∧
    ∃ s t : State, exec (.wrLcdc 0xF3) s = .next t ∧ bit s.lcdc s.cfg.lcdcWinEn = true ∧
      bit 0xF3 s.cfg.lcdcLcdEn = s.lcdOn ∧ s.winLine = 5 :=
  ⟨⟨_, rfl, by decide⟩, ⟨_, _, rfl, rfl, by decide⟩, { lit with lcdc := 0xF1, winLine := 5 }, _, rfl, rfl, rfl, rfl⟩

/-- T7's machine. -/
theorem witness_SetLyComparesAndFires :
    ∃ s : State, s.lyc = 100 ∧ bit s.ie s.cfg.lycIeBit = true := ⟨{ lit with lyc := 100, ie := 0x40 }, by decide⟩

theorem witness_ModeDoneHoldsWithLcdOff : State.reset.lcdOn = false := by decide

theorem witness_ModeDoneLeavesDrawing :
    ∃ s : State, s.lcdOn = true ∧ s.mode = .drawing := ⟨{ lit with mode := .drawing }, by decide⟩

/-- Line 143; line 142 under each policy. -/
theorem witness_ModeDoneEndsVisibleLine :
    (∃ s : State, s.lcdOn = true ∧ s.mode = .hblank ∧ s.ly.toNat ≤ 143 ∧ s.ly = 143) ∧
    (∃ s : State, s.lcdOn = true ∧ s.mode = .hblank ∧ s.ly.toNat ≤ 143 ∧ s.ly ≠ 143 ∧ s.cfg.oamScanPolicy = .perLine) ∧
    ∃ s : State, s.lcdOn = true ∧ s.mode = .hblank ∧ s.ly.toNat ≤ 143 ∧ s.ly ≠ 143 ∧ s.cfg.oamScanPolicy = .perFrame :=
  ⟨⟨{ lit with mode := .hblank, ly := 143 }, by decide⟩, ⟨{ lit with mode := .hblank, ly := 142 }, by decide⟩,
    { lit with mode := .hblank, ly := 142, cfg := { Config.default with oamScanPolicy := .perFrame } }, by decide⟩

/-- Lines 153 and 152. -/
theorem witness_ModeDoneEndsVBlankLine :
    (∃ s : State, s.lcdOn = true ∧ s.mode = .vblank ∧ 153 ≤ s.ly.toNat ∧ s.ly = 153) ∧
    ∃ s : State, s.lcdOn = true ∧ s.mode = .vblank ∧ s.ly.toNat < 153 ∧ s.ly = 152 :=
  ⟨⟨{ lit with mode := .vblank, ly := 153 }, by decide⟩, { lit with mode := .vblank, ly := 152 }, by decide⟩

/-- The last visible line. -/
theorem witness_ModeDoneRendersOneRow :
    ∃ s : State, s.lcdOn = true ∧ s.mode = .oamScan ∧ s.ly.toNat ≤ 143 ∧ s.ly = 143 :=
  ⟨{ lit with ly := 143 }, by decide⟩

theorem witness_OnlySequencerMovesPosition :
    ∃ t, exec .modeDone { lit with mode := .drawing } = .next t ∧ t.mode ≠ Mode.drawing := ⟨_, rfl, by decide⟩

theorem witness_OnlyRenderingWritesPicture :
    (∃ t, exec (.wrVram 0x8000 1) lit = .next t) ∧
    ¬ (Instr.wrVram 0x8000 1 = .modeDone ∧ lit.lcdOn = true ∧ lit.mode = .oamScan) ∧
    (∃ t, exec .modeDone lit = .next t) ∧ (5 : Nat) ≠ lit.ly.toNat := ⟨⟨_, rfl⟩, by decide, ⟨_, rfl⟩, by decide⟩

theorem witness_LycSignalOnlyWhenLyAssigned :
    ∃ t, exec .modeDone { lit with mode := .hblank, ly := 99, lyc := 100, ie := 0x40 } = .next t ∧
      t.resp = .lycIrq true := ⟨_, rfl, by decide⟩

/-- Lines 0 and 143. -/
theorem witness_LineAdvancesOneScanline :
    (lit.lcdOn = true ∧ lit.mode = .oamScan ∧ lit.ly.toNat ≤ 143) ∧
    ∃ s : State, s.lcdOn = true ∧ s.mode = .oamScan ∧ s.ly.toNat ≤ 143 ∧ s.ly = 143 :=
  ⟨by decide, { lit with ly := 143 }, by decide⟩

theorem witness_FrameRendersAllRowsAndReturns : lit.lcdOn = true ∧ lit.mode = .oamScan ∧ lit.ly = 0 := by decide

/-- LYC 0, 100 (T7), 144, 153 and 154. -/
theorem witness_LycSignalOncePerFrame : ∀ l ∈ [(0 : Byte), 100, 144, 153, 154],
    ({ lit with lyc := l, ie := 0x40 } : State).lcdOn = true ∧ ({ lit with lyc := l, ie := 0x40 } : State).mode = .oamScan ∧
    ({ lit with lyc := l, ie := 0x40 } : State).ly = 0 ∧ bit 0x40 lit.cfg.lycIeBit = true ∧ 299 < 442 := by decide

/-- No sprite of `lit` is on any line. -/
theorem lit_no_sprite (ly : Nat) (w : Byte) (l : Byte) (k : Fin 40) :
    ¬ (sprites { lit with lcdc := l, ly := w })[k].covers (spriteHeight { lit with lcdc := l, ly := w }) ly :=
  parked_covers_none _ ly k (by unfold spriteHeight; split <;> decide)

/-- The background enabled, and disabled. -/
theorem witness_BackgroundPixelFollowsTileMap : ∀ l ∈ [(0x91 : Byte), 0x90], ∃ s : State, s.lcdc = l ∧
    s.lcdOn = true ∧ s.mode = .oamScan ∧ s.ly.toNat ≤ 143 ∧
    ¬ (bit s.lcdc s.cfg.lcdcWinEn = true ∧ s.wy.toNat ≤ s.ly.toNat) ∧
    (∀ k : Fin 40, ¬ (sprites s)[k].covers (spriteHeight s) s.ly.toNat) ∧ bit s.lcdc s.cfg.lcdcBgEn = bit l 0 := by
  intro l hl
  refine ⟨{ lit with lcdc := l, ly := 143 }, rfl, ?_, rfl, le_refl 143, ?_, lit_no_sprite _ _ _, rfl⟩ <;>
    (simp only [List.mem_cons, List.not_mem_nil, or_false] at hl; rcases hl with rfl | rfl <;> decide)

/-- WX 87: column 79 lies left of the window and column 80 in it. -/
theorem witness_WindowPixelFollowsLineCounter : ∃ s : State, s.lcdOn = true ∧ s.mode = .oamScan ∧ s.ly.toNat ≤ 143 ∧
    bit s.lcdc s.cfg.lcdcWinEn = true ∧ s.wy.toNat ≤ s.ly.toNat ∧
    (∀ k : Fin 40, ¬ (sprites s)[k].covers (spriteHeight s) s.ly.toNat) ∧
    79 + 7 < s.wx.toNat ∧ s.wx.toNat ≤ 80 + 7 :=
  ⟨{ lit with lcdc := 0xF1, ly := 72, wy := 72, wx := 87 }, by decide, rfl, by decide, by decide, by decide,
    fun k => parked_covers_none _ _ k (by decide), by decide, by decide⟩

theorem witness_SpritesDrawnLastInReversePriority :
    priorityLine.lcdOn = true ∧ priorityLine.mode = .oamScan ∧ priorityLine.ly.toNat ≤ 143 ∧
    ∀ k : Fin 40, ¬ parked[k].covers (spriteHeight priorityLine) priorityLine.ly.toNat :=
  ⟨by decide, rfl, by decide, fun k => parked_covers_none _ _ k (by decide)⟩

/-- The sprite of R159 on its first and its last line, columns 0, 7 and 8. -/
theorem witness_SpritePixelRule :
    (spriteOf Config.default 0 16 8 1 0).covers (spriteHeight lit) (0 : Nat) ∧
    (spriteOf Config.default 0 16 8 1 0).covers (spriteHeight lit) (7 : Nat) ∧
    (spriteOf Config.default 0 16 8 1 0).x ≤ 0 ∧ (7 : Int) < (spriteOf Config.default 0 16 8 1 0).x + 8 ∧
    ¬ ((8 : Int) < (spriteOf Config.default 0 16 8 1 0).x + 8) := by decide

/-- Fifteen sprites of distinct slots; slot 0 is a candidate that is not kept. -/
theorem witness_PriorityListIsLowestTen :
    (∀ k : Fin 40, (sprites crowded)[k].slot = k) ∧
    (∃ a, a ∈ priorityList crowded 0) ∧ ∃ b ∈ candidates crowded 0, b ∉ priorityList crowded 0 := by
  refine ⟨by decide +kernel, ⟨(sprites crowded)[14], by decide +kernel⟩, (sprites crowded)[0], ?_, ?_⟩ <;> decide +kernel

/-- Tile 0 all zero (T5). -/
theorem witness_TransparentSpriteLeavesRow : ∃ s : State, ∀ col : Nat, col < 8 →
    spriteRaw s (spriteOf Config.default 9 16 64 0 0) 0 col = 0 :=
  ⟨{ lit with vram := [(0, 0), (1, 0)] }, by decide⟩

/-- T3: slot 2 over slot 5 at column 24. -/
def tieLine : State :=
  { litWith [spriteOf Config.default 2 16 32 3 0, spriteOf Config.default 5 16 32 4 0] with
    vram := [(0x30, 0xFF), (0x31, 0x00), (0x40, 0xFF), (0x41, 0xFF)] }

theorem witness_HighestPrioritySpriteShows :
    (∃ (before after : List Sprite) (sp : Sprite), priorityList tieLine 0 = before ++ sp :: after ∧ sp.slot = 2 ∧
      sp.bgPrio = false ∧ sp.x ≤ (24 : Int) ∧ (24 : Int) < sp.x + 8 ∧
      spriteRaw tieLine sp 0 ((24 : Int) - sp.x).toNat ≠ 0 ∧
      (∀ q ∈ before, q.x ≤ (24 : Int) → (24 : Int) < q.x + 8 → spriteRaw tieLine q 0 ((24 : Int) - q.x).toNat = 0)) :=
  ⟨[], [spriteOf Config.default 5 16 32 4 0], spriteOf Config.default 2 16 32 3 0, by decide +kernel, by decide,
    by decide, by decide, by decide, by decide, by simp⟩

/-- The first and the last byte of VRAM. -/
theorem witness_VramReadAndWrite : (0x8000 ≤ (0x8000 : Addr).toNat ∧ (0x8000 : Addr).toNat ≤ 0x9FFF) ∧
    0x8000 ≤ (0x9FFF : Addr).toNat ∧ (0x9FFF : Addr).toNat ≤ 0x9FFF := by decide

/-- The first and the last byte of OAM. -/
theorem witness_OamReadAndWrite :
    (lit.cfg.oamBase.toNat ≤ (0xFE00 : Addr).toNat ∧ (0xFE00 : Addr).toNat ≤ lit.cfg.oamBase.toNat + 159) ∧
    lit.cfg.oamBase.toNat ≤ (0xFE9F : Addr).toNat ∧ (0xFE9F : Addr).toNat ≤ lit.cfg.oamBase.toNat + 159 := by decide

theorem witness_BusRowsAreMemReadAndMemWrite : lit.cfg.wf := by decide

theorem witness_ReadAfterWriteOnBus : lit.cfg.wf ∧ inVram 0x9FFF ∧ inOam lit.cfg 0xFE9F ∧ inVram 0x8000 := by decide

/-- A write of another address, and one of LCDC. -/
theorem witness_ExternalWriterLimits : lit.cfg.wf ∧
    (∃ t, exec (wrRow lit.cfg 0xFE00 1) lit = .next t ∧ (0xFE00 : Addr) ≠ lit.cfg.regAddr.lcdc) ∧
    ∃ t, exec (wrRow lit.cfg 0xFF40 0x11) lit = .next t ∧ (0xFF40 : Addr) = lit.cfg.regAddr.lcdc :=
  ⟨by decide, ⟨_, rfl, by decide⟩, ⟨_, rfl, rfl⟩⟩

theorem witness_RenderingIgnoresOamContents : lit.mode = .oamScan := rfl

theorem witness_LatchedRecordsHiddenWhileLcdOff : State.reset.lcdOn = false := by decide

/-- The corner of the screen, and the pixel right of it. -/
theorem witness_GetPixelReadsFramebuffer :
    ((159 : Byte).toNat ≤ 159 ∧ (143 : Byte).toNat ≤ 143) ∧ ¬ ((160 : Byte).toNat ≤ 159 ∧ (143 : Byte).toNat ≤ 143) := by
  decide

theorem witness_ResetForcesStartState : lit.cfg.resetState = .zero := rfl

theorem witness_TileViewsAlias : Config.default.wf ∧
    Config.default.tileBaseSigned.toNat = Config.default.tileBaseUnsigned.toNat + 0x1000 ∧
    128 ≤ (0x80 : Byte).toNat ∧ (0x7F : Byte).toNat < 128 := by decide

theorem witness_TileMapEntryReadsMapOrZero : lit.cfg.wf ∧ ((0 : Int) ≤ 31 ∧ (31 : Int) ≤ 31) ∧
    ¬ ((0 : Int) ≤ 32 ∧ (32 : Int) ≤ 31 ∧ (0 : Int) ≤ 0 ∧ (0 : Int) ≤ 31) := by decide

theorem witness_PaletteFieldsAndClamp : 3 < 4 := by decide

theorem witness_DisplayColorClampsToDarkest : Config.default.wf := default_wf

/-- VRAM full of 0xFF (every map entry is tile 0xFF, uniform in raw 3); the records latched now come from Y bytes 0, and
the Y bytes of OAM are 160 (R262). -/
def uniform : State := { lit with vram := run 0xFF 0 8192, oam := run 0xA0 0 160 }

theorem uniform_vramRead {a : Int} (h : 0x8000 ≤ a ∧ a ≤ 0x9FFF) : vramRead uniform a = 0xFF := by
  simp only [vramRead, if_pos h, vramByte, uniform]
  rw [readCell_run _ (by omega) (by omega), Option.getD_some]

theorem witness_UniformMapFillsScreen : ∃ (s : State) (idx : Byte) (raw : Shade), raw = 3 ∧ s.cfg.wf ∧
    s.lcdOn = true ∧ s.mode = .oamScan ∧ s.ly = 0 ∧
    bit s.lcdc s.cfg.lcdcBgEn = true ∧ bit s.lcdc s.cfg.lcdcWinEn = false ∧
    (∀ x y : Nat, x < 32 → y < 32 → tileMapEntry s x y (bit s.lcdc s.cfg.lcdcBgMap) = idx) ∧
    (∀ r c : Fin 8, (decodeTile (Vector.ofFn fun i =>
      vramRead s (tileAddress s.cfg idx (!bit s.lcdc s.cfg.lcdcTileData) + i.val)))[r][c] = raw) ∧
    (∀ (k : Fin 40) (ly : Nat), ly < 144 → ¬ (sprites s)[k].covers (spriteHeight s) ly) ∧
    (∀ (k : Fin 40) (ly : Nat), ly < 144 → ¬ (scanSprite s k).covers (spriteHeight s) ly) := by
  refine ⟨uniform, 0xFF, 3, rfl, default_wf, rfl, rfl, rfl, rfl, rfl, ?_, ?_, ?_, ?_⟩
  · intro x y hx hy
    have hm : tileMapAddress uniform.cfg x y (bit uniform.lcdc uniform.cfg.lcdcBgMap) = 0x9800 + 32 * (y : Int) + x := rfl
    simp only [tileMapEntry, hm]
    rw [if_pos (by omega), uniform_vramRead (by omega)]
  · intro r c
    have ha : tileAddress uniform.cfg 0xFF (!bit uniform.lcdc uniform.cfg.lcdcTileData) = 0x8FF0 := rfl
    have hv : (Vector.ofFn fun i : Fin 16 => vramRead uniform (0x8FF0 + i.val)) = Vector.replicate 16 0xFF := by
      ext1 i hi
      rw [Vector.getElem_ofFn, Vector.getElem_replicate, uniform_vramRead (by omega)]
    rw [ha, hv]
    revert r c
    decide
  · intro k ly _
    exact parked_covers_none _ ly k (by decide)
  · intro k ly hly hc
    have hy : (scanSprite uniform k).y = 144 := by
      simp only [scanSprite, spriteOf, oamRead, if_pos (show (0 : Int) ≤ (4 * k.val : Nat) ∧ ((4 * k.val : Nat) : Int) ≤ 159 by omega),
        oamByte, uniform]
      rw [readCell_run _ (by omega) (by omega), Option.getD_some]
      rfl
    have := hc.1
    omega

end Sys2Proof.Tests
end

section
/-!
The pixels of a decoded tile (40_tile_codec.md R81, R82): a pixel as a number, from bits and from quotients, and
one pixel of `decodeTile`.
-/

namespace Sys2Proof.Machine

/-- R82, in numbers: the low plane's bit counts once, the high plane's bit twice. -/
theorem tileRowPixel_toNat (lo hi : Byte) (c : Nat) :
    (tileRowPixel lo hi c).toNat = (lo.getLsbD (7 - c)).toNat + 2 * (hi.getLsbD (7 - c)).toNat := by
  unfold tileRowPixel
  generalize lo.getLsbD (7 - c) = l
  generalize hi.getLsbD (7 - c) = h
  revert l h
  decide

/-- R82 with the plane bits read as quotients and remainders of the bytes. -/
theorem tileRowPixel_toNat_div_mod (lo hi : Byte) (c : Nat) :
    (tileRowPixel lo hi c).toNat = lo.toNat / 2 ^ (7 - c) % 2 + 2 * (hi.toNat / 2 ^ (7 - c) % 2) := by
  rw [tileRowPixel_toNat, BitVec.getLsbD, BitVec.getLsbD, Nat.toNat_testBit, Nat.toNat_testBit]

/-- R81 for one pixel: row `r` is made of bytes `2r` and `2r + 1`. -/
@[simp] theorem decodeTile_getElem (b : Vector Byte 16) (r c : Fin 8) :
    (decodeTile b)[r][c] = tileRowPixel b[2 * r.val] b[2 * r.val + 1] c.val := by
  simp only [decodeTile, Fin.getElem_fin, Vector.getElem_ofFn]

/-- Settles O51: the plane bytes of row `r` are in range, and the pixel is the one `tileRowPixel` takes from them. -/
theorem tileDecodeTakesPlaneBits : Obligations.TileDecodeTakesPlaneBits := by
  intro b r c
  refine ⟨b[2 * r.val], b[2 * r.val + 1], Vector.getElem?_eq_getElem _, Vector.getElem?_eq_getElem _, ?_, ?_⟩
  · rw [decodeTile_getElem, tileRowPixel_toNat_div_mod]
  · exact decodeTile_getElem b r c

end Sys2Proof.Machine
end

section
/-!
The bus rows of VRAM and OAM (R94 to R97): the byte a bus address names (R90 to R92), the one field each store changes,
and each row's next state.
-/

namespace Sys2Proof.Machine

/-! ## The byte a bus address names -/

/-- A VRAM address as the integer of R90 and R91: in range, and its offset is the byte's index. -/
theorem addrInt_of_inVram {a : Addr} (h : inVram a) :
    (0x8000 ≤ addrInt a ∧ addrInt a ≤ 0x9FFF) ∧ (addrInt a - 0x8000).toNat = a.toNat - 0x8000 := by
  simp only [addrInt]; omega

/-- An OAM address as the offset of R92: in range, and it is the byte's index. -/
theorem oamOffset_of_inOam {c : Config} {a : Addr} (h : inOam c a) :
    (0 ≤ oamOffset c a ∧ oamOffset c a ≤ 159) ∧ (oamOffset c a).toNat = a.toNat - c.oamBase.toNat := by
  simp only [oamOffset, addrInt]; omega

/-- `VramRead` inside the range (R90). -/
theorem vramRead_in {s : State} {a : Int} (h : 0x8000 ≤ a ∧ a ≤ 0x9FFF) :
    vramRead s a = vramByte s (a - 0x8000).toNat := by
  simp only [vramRead, if_pos h]

/-- `OamRead` inside the range (R92). -/
theorem oamRead_in {s : State} {i : Int} (h : 0 ≤ i ∧ i ≤ 159) : oamRead s i = oamByte s i.toNat := by
  simp only [oamRead, if_pos h]

/-! ## The field a store changes -/

/-- `VramWrite` changes no field but VRAM (R91). -/
theorem vramWrite_frame (s : State) (a : Int) (v : Byte) :
    vramWrite s a v = { s with vram := (vramWrite s a v).vram } := by
  unfold vramWrite
  split <;> rfl

/-- `OamWrite` changes no field but OAM (R92). -/
theorem oamWrite_frame (s : State) (i : Int) (v : Byte) :
    oamWrite s i v = { s with oam := (oamWrite s i v).oam } := by
  unfold oamWrite
  split <;> rfl

/-- The latched records are read from the record store, the configuration and the epoch only. -/
theorem sprites_congr {s t : State} (hs : t.spr = s.spr) (hc : t.cfg = s.cfg) (he : t.epoch = s.epoch) :
    sprites t = sprites s := by
  simp only [sprites, hs, hc, he]

/-! ## The rows -/

/-- RD.VRAM, said once (R94). -/
theorem exec_rdVram {a : Addr} (h : inVram a) (s : State) :
    exec (.rdVram a) s = .next { s with resp := .rdata (vramByte s (a.toNat - 0x8000)) } := by
  obtain ⟨hrange, hindex⟩ := addrInt_of_inVram h
  rw [← hindex, ← vramRead_in hrange]
  rfl

/-- WR.VRAM, said once (R95). -/
theorem exec_wrVram (a : Addr) (v : Byte) (s : State) :
    exec (.wrVram a v) s = .next { vramWrite s (addrInt a) v with resp := .lycIrq false } := rfl

/-- RD.OAM, said once (R96). -/
theorem exec_rdOam {s : State} {a : Addr} (h : inOam s.cfg a) :
    exec (.rdOam a) s = .next { s with resp := .rdata (oamByte s (a.toNat - s.cfg.oamBase.toNat)) } := by
  obtain ⟨hrange, hindex⟩ := oamOffset_of_inOam h
  rw [← hindex, ← oamRead_in hrange]
  rfl

/-- WR.OAM, said once (R97). -/
theorem exec_wrOam (a : Addr) (v : Byte) (s : State) :
    exec (.wrOam a v) s = .next { oamWrite s (oamOffset s.cfg a) v with resp := .lycIrq false } := rfl

/-- Settles O40: the address lies in the range of `VramRead` and `VramWrite`, and the store's frame is VRAM alone. -/
theorem vramReadAndWrite : Obligations.VramReadAndWrite := by
  intro s a hlo hhi
  obtain ⟨hrange, hindex⟩ := addrInt_of_inVram ⟨hlo, hhi⟩
  refine ⟨exec_rdVram ⟨hlo, hhi⟩ s, fun v => ⟨_, exec_wrVram a v s, ?_, fun i => ?_⟩⟩
  · conv_lhs => rw [vramWrite_frame]
  · rw [← hindex, ← vramByte_vramWrite hrange]
    exact vramByte_congr rfl rfl i

/-- Settles O41: the address is an offset in the range of `OamRead` and `OamWrite`, the store's frame is OAM alone, and
the latched records are not read from it. -/
theorem oamReadAndWrite : Obligations.OamReadAndWrite := by
  intro s a hlo hhi
  obtain ⟨hrange, hindex⟩ := oamOffset_of_inOam (c := s.cfg) ⟨hlo, hhi⟩
  refine ⟨exec_rdOam ⟨hlo, hhi⟩, fun v => ⟨_, exec_wrOam a v s, ?_, ?_, fun i => ?_⟩⟩
  · conv_lhs => rw [oamWrite_frame]
  · exact sprites_congr (by simp) (by simp) (by simp)
  · rw [← hindex, ← oamByte_oamWrite hrange]
    exact oamByte_congr rfl rfl i

end Sys2Proof.Machine
end

section
/-!
The palette registers (42_palette.md R110, R111): a field as a number, the entries of a decoded palette, the clamp, and
the composed form of the renderers.
-/

namespace Sys2Proof.Machine

/-- Shifting by `2 * i` and keeping two bits reads the base-4 digit `i` of the register. -/
theorem paletteField_toNat (p : Byte) (i : Nat) :
    ((p >>> (2 * i)).setWidth 2).toNat = p.toNat / 4 ^ i % 4 := by
  rw [BitVec.toNat_setWidth, BitVec.toNat_ushiftRight, Nat.shiftRight_eq_div_pow, Nat.pow_mul]

/-- R110 for one entry. -/
@[simp] theorem decodePalette_getElem (p : Byte) (i : Nat) (h : i < 4) :
    (decodePalette p)[i] = (p >>> (2 * i)).setWidth 2 := by
  simp only [decodePalette, Vector.getElem_ofFn]

/-- R111 where the clamp does not act. -/
theorem applyPalette_of_lt (d : Vector Shade 4) {raw : Nat} (h : raw < 4) : applyPalette raw d = d[raw] := by
  have hmin : min raw 3 = raw := Nat.min_eq_left (by omega)
  simp only [applyPalette, hmin]

/-- R111 where the clamp acts: every larger raw colour is read as 3. -/
theorem applyPalette_of_gt (d : Vector Shade 4) {raw : Nat} (h : 3 < raw) : applyPalette raw d = applyPalette 3 d := by
  have hmin : min raw 3 = 3 := Nat.min_eq_right h.le
  simp only [applyPalette, hmin, Nat.min_self]

/-- R111: on a 2-bit raw colour, decoding and applying a palette is the renderers' composed form. -/
theorem applyPalette_decodePalette (raw : Shade) (p : Byte) :
    applyPalette raw.toNat (decodePalette p) = shade raw p := by
  rw [applyPalette_of_lt _ raw.isLt, decodePalette_getElem, shade]

/-- Settles O56: a field is a base-4 digit of the register, and the clamp acts on raw colours above 3 only. -/
theorem paletteFieldsAndClamp : Obligations.PaletteFieldsAndClamp := by
  intro p
  refine ⟨fun i => ?_, fun raw h => applyPalette_of_gt _ h, fun raw => ⟨applyPalette_decodePalette raw p, ?_⟩⟩
  · rw [Fin.getElem_fin, decodePalette_getElem, paletteField_toNat]
  · exact paletteField_toNat p raw.toNat

end Sys2Proof.Machine
end

section
/-!
The sprite sorter (45_sprites.md R149 to R151): which records are candidates, the priority order as a total order that
is strict on distinct slots, and the ten kept sprites as the front of the sorted candidates.
-/

namespace Sys2Proof.Machine

/-! ## Candidates -/

/-- R148 with the size bit read from LCDC. -/
theorem spriteHeight_eq (s : State) : spriteHeight s = if bit s.lcdc s.cfg.lcdcObjSize then 16 else 8 := rfl

/-- R149: the candidates are the latched records that cover the line. -/
theorem mem_candidates {s : State} {ly : Nat} {sp : Sprite} :
    sp ∈ candidates s ly ↔ sp ∈ sprites s ∧ sp.covers (spriteHeight s) ly := by
  simp only [candidates, List.mem_filter, Vector.mem_toList_iff, decide_eq_true_eq]

/-- The record of slot `k` is a candidate exactly when it covers the line. -/
theorem sprites_getElem_mem_candidates {s : State} {ly : Nat} (k : Fin 40) :
    (sprites s)[k] ∈ candidates s ly ↔ (sprites s)[k].covers (spriteHeight s) ly :=
  mem_candidates.trans (and_iff_right (Vector.getElem_mem k.isLt))

/-- Every candidate is the record of some slot. -/
theorem exists_slot_of_mem_candidates {s : State} {ly : Nat} {sp : Sprite} (h : sp ∈ candidates s ly) :
    ∃ k : Fin 40, sp = (sprites s)[k] := by
  obtain ⟨i, hi, heq⟩ := Vector.getElem_of_mem (mem_candidates.mp h).1
  exact ⟨⟨i, hi⟩, heq.symm⟩

/-- Records whose slots are their own indices give candidates of distinct slots. -/
theorem candidates_pairwise_slot_ne {s : State} (hslot : ∀ k : Fin 40, (sprites s)[k].slot = k) (ly : Nat) :
    (candidates s ly).Pairwise (fun a b => a.slot ≠ b.slot) := by
  refine List.Pairwise.filter _ (List.pairwise_iff_getElem.mpr fun i j hi hj hij => ?_)
  rw [Vector.length_toList] at hi hj
  have hslots : (sprites s)[i].slot = ⟨i, hi⟩ ∧ (sprites s)[j].slot = ⟨j, hj⟩ := ⟨hslot ⟨i, hi⟩, hslot ⟨j, hj⟩⟩
  rw [Vector.getElem_toList, Vector.getElem_toList, hslots.1, hslots.2, Ne, Fin.mk.injEq]
  exact hij.ne

/-! ## The priority order -/

/-- The strict priority order (R150): lower `x` first, ties by the lower slot. -/
abbrev Sprite.strictlyBefore (a b : Sprite) : Prop := a.x < b.x ∨ (a.x = b.x ∧ a.slot < b.slot)

/-- On distinct slots the priority order is strict. -/
theorem Sprite.before.strict {a b : Sprite} (h : a.before b) (hne : a.slot ≠ b.slot) : a.strictlyBefore b :=
  h.imp_right fun ⟨hx, hle⟩ => ⟨hx, lt_of_le_of_ne hle hne⟩

theorem Sprite.before_total : Std.Total Sprite.before where
  total a b := by
    rcases lt_trichotomy a.x b.x with hlt | heq | hgt
    · exact .inl (.inl hlt)
    · exact (le_total a.slot b.slot).imp (fun h => .inr ⟨heq, h⟩) (fun h => .inr ⟨heq.symm, h⟩)
    · exact .inr (.inl hgt)

theorem Sprite.before_trans : IsTrans Sprite Sprite.before where
  trans a b c := by
    rintro (hab | ⟨hab, sab⟩) (hbc | ⟨hbc, sbc⟩)
    · exact .inl (hab.trans hbc)
    · exact .inl (hbc ▸ hab)
    · exact .inl (hab ▸ hbc)
    · exact .inr ⟨hab.trans hbc, sab.trans sbc⟩

/-! ## The sorted candidates and the kept ones -/

/-- The candidates of a line in priority order, before the cap (R150). -/
def sortedCandidates (s : State) (ly : Nat) : List Sprite := (candidates s ly).insertionSort Sprite.before

theorem sortedCandidates_perm (s : State) (ly : Nat) : (sortedCandidates s ly).Perm (candidates s ly) :=
  List.perm_insertionSort _ _

/-- R151: the cap cuts the sorted candidates into the kept ones and the dropped ones. -/
theorem priorityList_append_dropped (s : State) (ly : Nat) :
    priorityList s ly ++ (sortedCandidates s ly).drop 10 = sortedCandidates s ly :=
  List.take_append_drop 10 _

theorem length_priorityList (s : State) (ly : Nat) : (priorityList s ly).length = min 10 (candidates s ly).length := by
  rw [priorityList, List.length_take, List.length_insertionSort]

theorem mem_candidates_of_mem_priorityList {s : State} {ly : Nat} {sp : Sprite} (h : sp ∈ priorityList s ly) :
    sp ∈ candidates s ly :=
  (sortedCandidates_perm s ly).mem_iff.mp (List.mem_of_mem_take h)

/-- A candidate that is not kept is one the cap dropped. -/
theorem mem_dropped_of_not_mem_priorityList {s : State} {ly : Nat} {sp : Sprite} (h : sp ∈ candidates s ly)
    (hkept : sp ∉ priorityList s ly) : sp ∈ (sortedCandidates s ly).drop 10 := by
  have hsorted := (sortedCandidates_perm s ly).mem_iff.mpr h
  rw [← priorityList_append_dropped, List.mem_append] at hsorted
  exact hsorted.resolve_left hkept

/-- R150: sorting the candidates of distinct slots puts them in strict priority order. -/
theorem sortedCandidates_pairwise {s : State} (hslot : ∀ k : Fin 40, (sprites s)[k].slot = k) (ly : Nat) :
    (sortedCandidates s ly).Pairwise Sprite.strictlyBefore := by
  have := Sprite.before_total
  have := Sprite.before_trans
  have hbefore : (sortedCandidates s ly).Pairwise Sprite.before := List.pairwise_insertionSort _ _
  have hne : (sortedCandidates s ly).Pairwise (fun a b => a.slot ≠ b.slot) :=
    ((sortedCandidates_perm s ly).pairwise_iff Ne.symm).mpr (candidates_pairwise_slot_ne hslot ly)
  exact hbefore.imp₂ (fun _ _ => Sprite.before.strict) hne

/-- Settles O36: the sorted candidates are the kept ones followed by the dropped ones, so their strict order orders the
kept ones among each other and puts each of them before each dropped one. -/
theorem priorityListIsLowestTen : Obligations.PriorityListIsLowestTen := by
  intro s ly hslot
  have hsorted := sortedCandidates_pairwise hslot ly
  rw [← priorityList_append_dropped, List.pairwise_append] at hsorted
  obtain ⟨hkept, -, hcross⟩ := hsorted
  refine ⟨fun k => ?_, fun a => exists_slot_of_mem_candidates, length_priorityList s ly, hkept,
    fun a => mem_candidates_of_mem_priorityList, fun a ha b hb hout => ?_⟩
  · rw [sprites_getElem_mem_candidates, Sprite.covers, spriteHeight_eq]
  · exact hcross a ha b (mem_dropped_of_not_mem_priorityList hb hout)

end Sys2Proof.Machine
end

section
/-!
The writes of STAT and LY (46_register_bank.md R173, R179): each row's next state, and the value of STAT that is read
back after a write.
-/

namespace Sys2Proof.Machine

/-- RD.STAT, said once (R174). -/
theorem exec_rdStat (s : State) : exec .rdStat s = .next { s with resp := .rdata (statRead s) } := rfl

/-- WR.STAT, said once (R173). -/
theorem exec_wrStat (v : Byte) (s : State) :
    exec (.wrStat v) s = .next { s with ie := v &&& s.cfg.statWmask, resp := .lycIrq false } := rfl

/-- WR.LY, said once (R179). -/
theorem exec_wrLy (v : Byte) (s : State) : exec (.wrLy v) s = .next { s with resp := .lycIrq false } := rfl

/-- The mask acts once: the bits WR.STAT stored are read back as stored, over the old match flag and mode. -/
theorem statRead_of_exec_wrStat {v : Byte} {s t : State} (h : exec (.wrStat v) s = .next t) :
    statRead t =
      (v &&& s.cfg.statWmask) ||| ((BitVec.ofBool s.lycMatch).setWidth 8 <<< 2) ||| s.mode.code.setWidth 8 := by
  rw [exec_wrStat] at h
  cases h
  simp only [statRead, BitVec.and_assoc, BitVec.and_self]

/-- Settles O15: the next state is `exec_wrStat`; in the rule's example the bits read back are the mask, the match bit
and the code of OAMScan. -/
theorem statWriteKeepsMaskedBits : Obligations.StatWriteKeepsMaskedBits := by
  refine ⟨exec_wrStat, fun s t hmode hmatch h => ?_⟩
  have hread := statRead_of_exec_wrStat h
  rw [hmode, hmatch] at hread
  refine ⟨fun hmask => ?_, fun hmask => ?_⟩ <;> rw [exec_rdStat, hread, hmask] <;> rfl

/-- Settles O16: no field but the response is stored. -/
theorem lyWriteIsIgnored : Obligations.LyWriteIsIgnored := exec_wrLy

end Sys2Proof.Machine
end

section
/-!
MODE_DONE in Drawing (47_timing_fsm_and_output.md R213): the transition to HBlank, whose only other change is the
response.
-/

namespace Sys2Proof.Machine

/-- The row of MODE_DONE is the mode machine's step (R210). -/
theorem exec_modeDone (s : State) : exec .modeDone s = execModeDone s := rfl

/-- MODE_DONE in Drawing (R213): the LCD on and the mode leave one case of `execModeDone_cases`. -/
theorem execModeDone_of_drawing {s : State} (hon : s.lcdOn = true) (hmode : s.mode = .drawing) :
    execModeDone s = .next { s with mode := .hblank, resp := .lycIrq false } := by
  simpa [hon, hmode] using execModeDone_cases s

/-- Settles O22: the next state of `execModeDone_of_drawing` keeps every field but the mode and the response. -/
theorem modeDoneLeavesDrawing : Obligations.ModeDoneLeavesDrawing := by
  intro s hon hmode
  rw [exec_modeDone, execModeDone_of_drawing hon hmode]

end Sys2Proof.Machine
end

section
/-!
Reading command words (30_encoding.md R61 to R65): every well-formed instruction is a bus row or one of the four
operations of classes 2 to 5, what a decoded word's fields are, and which words decode.
-/

namespace Sys2Proof

/-! ## The row of an address -/

/-- RD of a register, the class 0 row of its address (R63). -/
def rdReg : RegName → Instr
  | .lcdc => .rdLcdc
  | .stat => .rdStat
  | .scy => .rdScy
  | .scx => .rdScx
  | .ly => .rdLy
  | .lyc => .rdLyc
  | .bgp => .rdBgp
  | .obp0 => .rdObp0
  | .obp1 => .rdObp1
  | .wy => .rdWy
  | .wx => .rdWx

/-- WR of a register, the class 1 row of its address (R63). -/
def wrReg (v : Byte) : RegName → Instr
  | .lcdc => .wrLcdc v
  | .stat => .wrStat v
  | .scy => .wrScy v
  | .scx => .wrScx v
  | .ly => .wrLy v
  | .lyc => .wrLyc v
  | .bgp => .wrBgp v
  | .obp0 => .wrObp0 v
  | .obp1 => .wrObp1 v
  | .wy => .wrWy v
  | .wx => .wrWx v

theorem rdRow_of_target_vram {c : Config} {a : Addr} (h : busTarget c a = .vram) : rdRow c a = .rdVram a := by
  rw [rdRow, h]

theorem rdRow_of_target_oam {c : Config} {a : Addr} (h : busTarget c a = .oam) : rdRow c a = .rdOam a := by
  rw [rdRow, h]

theorem rdRow_of_target_reg {c : Config} {a : Addr} {r : RegName} (h : busTarget c a = .reg r) :
    rdRow c a = rdReg r := by
  rw [rdRow, h]; cases r <;> rfl

theorem rdRow_of_target_unmapped {c : Config} {a : Addr} (h : busTarget c a = .unmapped) :
    rdRow c a = .rdUnmapped a := by
  rw [rdRow, h]

theorem wrRow_of_target_vram {c : Config} {a : Addr} (h : busTarget c a = .vram) (v : Byte) :
    wrRow c a v = .wrVram a v := by
  rw [wrRow, h]

theorem wrRow_of_target_oam {c : Config} {a : Addr} (h : busTarget c a = .oam) (v : Byte) :
    wrRow c a v = .wrOam a v := by
  rw [wrRow, h]

theorem wrRow_of_target_reg {c : Config} {a : Addr} {r : RegName} (h : busTarget c a = .reg r) (v : Byte) :
    wrRow c a v = wrReg v r := by
  rw [wrRow, h]; cases r <;> rfl

theorem wrRow_of_target_unmapped {c : Config} {a : Addr} (h : busTarget c a = .unmapped) (v : Byte) :
    wrRow c a v = .wrUnmapped a v := by
  rw [wrRow, h]

/-! ## Encode, then decode -/

/-- A well-formed instruction is the row of a bus address, or one of the operations of classes 2 to 5 (R60, R63). -/
inductive Spelled (c : Config) : Instr → Prop
  | rd (a : Addr) : Spelled c (rdRow c a)
  | wr (a : Addr) (v : Byte) : Spelled c (wrRow c a v)
  | modeDone : Spelled c .modeDone
  | getPixel (x y : Byte) : Spelled c (.getPixel x y)
  | snapshot : Spelled c .snapshot
  | reset : Spelled c .reset

theorem spelled_rdReg {c : Config} (hc : c.decodeDisjoint) (r : RegName) : Spelled c (rdReg r) :=
  rdRow_of_target_reg (busTarget_reg hc r) ▸ .rd _

theorem spelled_wrReg {c : Config} (hc : c.decodeDisjoint) (r : RegName) (v : Byte) : Spelled c (wrReg v r) :=
  wrRow_of_target_reg (busTarget_reg hc r) v ▸ .wr _ v

theorem spelled_of_wellFormed {c : Config} (hc : c.decodeDisjoint) {i : Instr} (h : wellFormed c i = true) :
    Spelled c i := by
  cases i with
  | rdVram a => exact rdRow_of_target_vram (busTarget_vram (of_decide_eq_true h)) ▸ .rd a
  | wrVram a v => exact wrRow_of_target_vram (busTarget_vram (of_decide_eq_true h)) v ▸ .wr a v
  | rdOam a => exact rdRow_of_target_oam (busTarget_oam hc (of_decide_eq_true h)) ▸ .rd a
  | wrOam a v => exact wrRow_of_target_oam (busTarget_oam hc (of_decide_eq_true h)) v ▸ .wr a v
  | rdUnmapped a => exact rdRow_of_target_unmapped (busTarget_unmapped (of_decide_eq_true h)) ▸ .rd a
  | wrUnmapped a v => exact wrRow_of_target_unmapped (busTarget_unmapped (of_decide_eq_true h)) v ▸ .wr a v
  | rdLcdc => exact spelled_rdReg hc .lcdc
  | wrLcdc v => exact spelled_wrReg hc .lcdc v
  | rdStat => exact spelled_rdReg hc .stat
  | wrStat v => exact spelled_wrReg hc .stat v
  | rdScy => exact spelled_rdReg hc .scy
  | wrScy v => exact spelled_wrReg hc .scy v
  | rdScx => exact spelled_rdReg hc .scx
  | wrScx v => exact spelled_wrReg hc .scx v
  | rdLy => exact spelled_rdReg hc .ly
  | wrLy v => exact spelled_wrReg hc .ly v
  | rdLyc => exact spelled_rdReg hc .lyc
  | wrLyc v => exact spelled_wrReg hc .lyc v
  | rdBgp => exact spelled_rdReg hc .bgp
  | wrBgp v => exact spelled_wrReg hc .bgp v
  | rdObp0 => exact spelled_rdReg hc .obp0
  | wrObp0 v => exact spelled_wrReg hc .obp0 v
  | rdObp1 => exact spelled_rdReg hc .obp1
  | wrObp1 v => exact spelled_wrReg hc .obp1 v
  | rdWy => exact spelled_rdReg hc .wy
  | wrWy v => exact spelled_wrReg hc .wy v
  | rdWx => exact spelled_rdReg hc .wx
  | wrWx v => exact spelled_wrReg hc .wx v
  | modeDone => exact .modeDone
  | getPixel x y => exact .getPixel x y
  | snapshot => exact .snapshot
  | reset => exact .reset

/-- Settles O1: a well-formed instruction is a bus row, whose word carries the row's address, or one of the four other
operations, whose word carries its class. -/
theorem encodeThenDecodeGivesInstr : Obligations.EncodeThenDecodeGivesInstr := by
  intro c i hc hwf
  cases spelled_of_wellFormed hc.1 hwf with
  | rd a => rw [encode_rdRow, decode_rdWord]
  | wr a v => rw [encode_wrRow, decode_wrWord]
  | modeDone => simp [decode, encode, requireZero]
  | getPixel x y => simp [decode, encode, requireZero]
  | snapshot => simp [decode, encode, requireZero]
  | reset => simp [decode, encode, requireZero]

/-! ## Decode, then encode -/

/-- What a decoded word says: its class names the operation, its operands are the operation's, and every other field
is 0 (R64). -/
inductive Decoded (c : Config) (w : Cmd) : Instr → Prop
  | rd (hcls : cmdClass w = 0) (hb : cmdB w = 0) : Decoded c w (rdRow c (cmdA w))
  | wr (hcls : cmdClass w = 1) : Decoded c w (wrRow c (cmdA w) (cmdB w))
  | modeDone (hcls : cmdClass w = 2) (ha : cmdA w = 0) (hb : cmdB w = 0) : Decoded c w .modeDone
  | getPixel (hcls : cmdClass w = 3) (hb : cmdB w = 0) :
      Decoded c w (.getPixel (pixelX (cmdA w)) (pixelY (cmdA w)))
  | snapshot (hcls : cmdClass w = 4) (ha : cmdA w = 0) (hb : cmdB w = 0) : Decoded c w .snapshot
  | reset (hcls : cmdClass w = 5) (ha : cmdA w = 0) (hb : cmdB w = 0) : Decoded c w .reset

@[simp] theorem requireZero_eq_ok {ok : Bool} {i j : Instr} : requireZero ok i = .ok j ↔ ok = true ∧ i = j := by
  cases ok <;> simp [requireZero]

theorem decode_eq_ok_iff {c : Config} {w : Cmd} {i : Instr} :
    decode c w = .ok i ↔ cmdZero w = 0 ∧ Decoded c w i := by
  constructor
  · intro h
    unfold decode at h
    split at h
    · cases h
    · rename_i hz
      refine ⟨not_not.mp hz, ?_⟩
      have hcls : ∀ {n : Nat}, (cmdClass w).toNat = n → cmdClass w = BitVec.ofNat 4 n := fun h => by simp [← h]
      split at h
      · rename_i hk
        obtain ⟨hb, rfl⟩ := by simpa using h
        exact .rd (hcls hk) hb
      · rename_i hk
        cases h
        exact .wr (hcls hk)
      · rename_i hk
        obtain ⟨⟨ha, hb⟩, rfl⟩ := by simpa using h
        exact .modeDone (hcls hk) ha hb
      · rename_i hk
        obtain ⟨hb, rfl⟩ := by simpa using h
        exact .getPixel (hcls hk) hb
      · rename_i hk
        obtain ⟨⟨ha, hb⟩, rfl⟩ := by simpa using h
        exact .snapshot (hcls hk) ha hb
      · rename_i hk
        obtain ⟨⟨ha, hb⟩, rfl⟩ := by simpa using h
        exact .reset (hcls hk) ha hb
      · cases h
  · rintro ⟨hz, hd⟩
    cases hd <;> simp [decode, requireZero, *]

/-- A word of zero field 0 is the word of its class and operands. -/
theorem eq_cmdWord {w : Cmd} {k : BitVec 4} {a : Addr} {b : Byte} (hz : cmdZero w = 0) (hk : cmdClass w = k)
    (ha : cmdA w = a) (hb : cmdB w = b) : cmdWord k a b = w := by
  rw [← hk, ← ha, ← hb, cmdWord_fields hz]

/-- Settles O2: the fields of the decoded word are the fields the encoder writes, the rest being 0 in both. -/
theorem decodeThenEncodeGivesWord : Obligations.DecodeThenEncodeGivesWord := by
  intro c w i _ h
  obtain ⟨hz, hd⟩ := decode_eq_ok_iff.mp h
  cases hd with
  | rd hcls hb => exact ⟨encode_rdRow c _ ▸ eq_cmdWord hz hcls rfl hb, wellFormed_rdRow c _⟩
  | wr hcls => exact ⟨encode_wrRow c _ _ ▸ eq_cmdWord hz hcls rfl rfl, wellFormed_wrRow c _ _⟩
  | modeDone hcls ha hb => exact ⟨eq_cmdWord hz hcls ha hb, rfl⟩
  | getPixel hcls hb => exact ⟨eq_cmdWord hz hcls (pixelOperand_fields _).symm hb, rfl⟩
  | snapshot hcls ha hb => exact ⟨eq_cmdWord hz hcls ha hb, rfl⟩
  | reset hcls ha hb => exact ⟨eq_cmdWord hz hcls ha hb, rfl⟩

end Sys2Proof
end

section
/-!
Reserved words and the opcode table (30_encoding.md R63, R65): the fields of a word as numbers, and when a row of the
table matches a word, field by field.
-/

namespace Sys2Proof

/-! ## The fields as quotients and remainders -/

theorem cmdClass_toNat (w : Cmd) : (cmdClass w).toNat = w.toNat / 2 ^ 28 := by
  rw [cmdClass, BitVec.extractLsb'_toNat, Nat.shiftRight_eq_div_pow]
  exact Nat.mod_eq_of_lt (by have := w.isLt; omega)

theorem cmdZero_toNat (w : Cmd) : (cmdZero w).toNat = w.toNat / 2 ^ 24 % 16 := by
  rw [cmdZero, BitVec.extractLsb'_toNat, Nat.shiftRight_eq_div_pow]

theorem cmdA_toNat (w : Cmd) : (cmdA w).toNat = w.toNat / 2 ^ 8 % 2 ^ 16 := by
  rw [cmdA, BitVec.extractLsb'_toNat, Nat.shiftRight_eq_div_pow]

theorem cmdB_toNat (w : Cmd) : (cmdB w).toNat = w.toNat % 2 ^ 8 := by
  rw [cmdB, BitVec.extractLsb'_toNat, Nat.shiftRight_zero]

theorem cmdZero_eq_zero_iff (w : Cmd) : cmdZero w = 0 ↔ w.toNat / 2 ^ 24 % 16 = 0 := by
  rw [← BitVec.toNat_inj, cmdZero_toNat]; rfl

theorem cmdB_eq_zero_iff (w : Cmd) : cmdB w = 0 ↔ w.toNat % 2 ^ 8 = 0 := by
  rw [← BitVec.toNat_inj, cmdB_toNat]; rfl

theorem operands_eq_zero_iff (w : Cmd) : cmdA w = 0 ∧ cmdB w = 0 ↔ w.toNat % 2 ^ 24 = 0 := by
  rw [cmdB_eq_zero_iff, ← BitVec.toNat_inj, cmdA_toNat]
  simp only [BitVec.ofNat_eq_ofNat, BitVec.toNat_ofNat]
  omega

theorem cmdClass_eq_iff (w : Cmd) {n : Nat} (hn : n < 16) : cmdClass w = BitVec.ofNat 4 n ↔ w.toNat / 2 ^ 28 = n := by
  rw [← BitVec.toNat_inj, cmdClass_toNat, BitVec.toNat_ofNat, Nat.mod_eq_of_lt hn]

/-! ## Which words decode -/

/-- R64: a word decodes when its zero field is 0 and the operand fields its class does not use are 0. -/
theorem exists_decode_ok_iff (c : Config) (w : Cmd) :
    (∃ i, decode c w = .ok i) ↔ cmdZero w = 0 ∧
      (cmdClass w = 1 ∨ ((cmdClass w = 0 ∨ cmdClass w = 3) ∧ cmdB w = 0) ∨
        ((cmdClass w = 2 ∨ cmdClass w = 4 ∨ cmdClass w = 5) ∧ cmdA w = 0 ∧ cmdB w = 0)) := by
  simp only [decode_eq_ok_iff]
  constructor
  · rintro ⟨i, hz, hd⟩
    refine ⟨hz, ?_⟩
    cases hd with
    | rd hcls hb => exact .inr (.inl ⟨.inl hcls, hb⟩)
    | wr hcls => exact .inl hcls
    | modeDone hcls ha hb => exact .inr (.inr ⟨.inl hcls, ha, hb⟩)
    | getPixel hcls hb => exact .inr (.inl ⟨.inr hcls, hb⟩)
    | snapshot hcls ha hb => exact .inr (.inr ⟨.inr (.inl hcls), ha, hb⟩)
    | reset hcls ha hb => exact .inr (.inr ⟨.inr (.inr hcls), ha, hb⟩)
  · rintro ⟨hz, hcls | ⟨hcls | hcls, hb⟩ | ⟨hcls | hcls | hcls, ha, hb⟩⟩
    · exact ⟨_, hz, .wr hcls⟩
    · exact ⟨_, hz, .rd hcls hb⟩
    · exact ⟨_, hz, .getPixel hcls hb⟩
    · exact ⟨_, hz, .modeDone hcls ha hb⟩
    · exact ⟨_, hz, .snapshot hcls ha hb⟩
    · exact ⟨_, hz, .reset hcls ha hb⟩

theorem exists_decode_error_iff (c : Config) (w : Cmd) :
    (∃ why, decode c w = .error why) ↔ ¬ ∃ i, decode c w = .ok i := by
  cases decode c w <;> simp

/-- Settles O4: the words that decode are those of `exists_decode_ok_iff`, and its complement in numbers is R65's three
causes; a step on a word that does not decode is the refusal of `stepWord`. -/
theorem reservedWordsAreRefused : Obligations.ReservedWordsAreRefused := by
  refine ⟨fun c w => ?_, fun s w rest why hc hw hd => ?_⟩
  · have hcls (n : Nat) (hn : n < 16) := cmdClass_eq_iff w hn
    rw [exists_decode_error_iff, exists_decode_ok_iff, cmdZero_eq_zero_iff, operands_eq_zero_iff, cmdB_eq_zero_iff,
      show cmdClass w = 0 ↔ _ from hcls 0 (by decide), show cmdClass w = 1 ↔ _ from hcls 1 (by decide),
      show cmdClass w = 2 ↔ _ from hcls 2 (by decide), show cmdClass w = 3 ↔ _ from hcls 3 (by decide),
      show cmdClass w = 4 ↔ _ from hcls 4 (by decide), show cmdClass w = 5 ↔ _ from hcls 5 (by decide)]
    omega
  · rw [Machine.step_cons hc hw, Machine.stepWord, hd]

/-! ## The opcode table -/

/-- A row matches when each field of the word, under the row's mask, is the row's. -/
theorem rowMatches_iff (w : Cmd) (row : String × Cmd × Cmd) :
    rowMatches w row = true ↔
      cmdClass w &&& cmdClass row.2.2 = cmdClass row.2.1 ∧ cmdZero w &&& cmdZero row.2.2 = cmdZero row.2.1 ∧
      cmdA w &&& cmdA row.2.2 = cmdA row.2.1 ∧ cmdB w &&& cmdB row.2.2 = cmdB row.2.1 := by
  have hfields (u v : Cmd) : u = v ↔
      cmdClass u = cmdClass v ∧ cmdZero u = cmdZero v ∧ cmdA u = cmdA v ∧ cmdB u = cmdB v := by
    refine ⟨by rintro rfl; exact ⟨rfl, rfl, rfl, rfl⟩, fun ⟨hk, hz, ha, hb⟩ => BitVec.eq_of_toNat_eq ?_⟩
    simp only [← BitVec.toNat_inj, cmdClass_toNat, cmdZero_toNat, cmdA_toNat, cmdB_toNat] at hk hz ha hb
    omega
  rw [rowMatches, beq_iff_eq, hfields]
  simp only [cmdClass, cmdZero, cmdA, cmdB, BitVec.extractLsb'_and]

/-- Two rows of which no word matches both: some bit that both masks read is set in one pattern and not in the
other. -/
abbrev RowsDisjoint (r q : String × Cmd × Cmd) : Prop := r.2.2 &&& q.2.2 &&& (r.2.1 ^^^ q.2.1) ≠ 0

theorem not_rowsDisjoint_of_rowMatches {r q : String × Cmd × Cmd} {w : Cmd} (hr : rowMatches w r = true)
    (hq : rowMatches w q = true) : ¬ RowsDisjoint r q := by
  rw [rowMatches, beq_iff_eq] at hr hq
  refine not_not.mpr ?_
  rw [← hr, ← hq]
  ext i
  simp only [BitVec.getElem_and, BitVec.getElem_xor, BitVec.ofNat_eq_ofNat, BitVec.getElem_zero]
  cases w[i] <;> cases r.2.2[i] <;> cases q.2.2[i] <;> rfl

theorem opcodeRows_pairwise_disjoint : opcodeRows.Pairwise RowsDisjoint := by decide

/-- A word matches at most one row that is no fallback, so the order of these rows does not matter. -/
theorem tableMnemonic_of_mem {w : Cmd} {row : String × Cmd × Cmd} (hmem : row ∈ opcodeRows)
    (hrow : rowMatches w row = true) : tableMnemonic w = some row.1 := by
  obtain ⟨q, hq⟩ := Option.isSome_iff_exists.mp (List.find?_isSome.mpr ⟨row, hmem, hrow⟩)
  have hsymm : Std.Symm RowsDisjoint :=
    ⟨fun r q h => by rwa [RowsDisjoint, BitVec.and_comm q.2.2, BitVec.xor_comm q.2.1]⟩
  have heq : q = row := by
    by_contra hne
    exact not_rowsDisjoint_of_rowMatches (List.find?_some hq) hrow
      (opcodeRows_pairwise_disjoint.forall (List.mem_of_find?_eq_some hq) hmem hne)
  rw [tableMnemonic, List.find?_append, hq, heq]
  rfl

/-- Where no other row matches, the fallback rows decide. -/
theorem tableMnemonic_of_not_mem {w : Cmd} (h : ∀ row ∈ opcodeRows, ¬ rowMatches w row = true) :
    tableMnemonic w = (fallbackRows.find? (rowMatches w)).map Prod.fst := by
  rw [tableMnemonic, List.find?_append, List.find?_eq_none.mpr h, Option.none_or]

theorem and_mask4 (x : BitVec 4) : x &&& 0xF = x := BitVec.and_allOnes (x := x)

theorem and_mask8 (x : Byte) : x &&& 0xFF = x := BitVec.and_allOnes (x := x)

theorem and_mask16 (x : Addr) : x &&& 0xFFFF = x := BitVec.and_allOnes (x := x)

/-- Every row reads the whole header of the word and the operand fields that must be 0 (R61, R64). -/
theorem tableRows_header : ∀ row ∈ opcodeRows ++ fallbackRows,
    (cmdZero row.2.2 = 0xF ∧ cmdZero row.2.1 = 0) ∧ cmdClass row.2.2 = 0xF ∧
    (cmdClass row.2.1 = 1 ∨
      (cmdClass row.2.1 = 0 ∨ cmdClass row.2.1 = 3) ∧ cmdB row.2.2 = 0xFF ∧ cmdB row.2.1 = 0 ∨
      (cmdClass row.2.1 = 2 ∨ cmdClass row.2.1 = 4 ∨ cmdClass row.2.1 = 5) ∧
        (cmdA row.2.2 = 0xFFFF ∧ cmdA row.2.1 = 0) ∧ cmdB row.2.2 = 0xFF ∧ cmdB row.2.1 = 0) := by decide

/-- A word that matches a row of the table decodes. -/
theorem decodes_of_rowMatches {w : Cmd} {row : String × Cmd × Cmd} (hmem : row ∈ opcodeRows ++ fallbackRows)
    (hrow : rowMatches w row = true) : ∃ i, decode Config.default w = .ok i := by
  obtain ⟨hk, hz, ha, hb⟩ := (rowMatches_iff w row).mp hrow
  obtain ⟨⟨hzm, hz0⟩, hkm, hcls⟩ := tableRows_header row hmem
  rw [hzm, hz0, and_mask4] at hz
  rw [hkm, and_mask4] at hk
  rw [exists_decode_ok_iff, hk]
  rcases hcls with hcls | ⟨hcls, hbm, hb0⟩ | ⟨hcls, ⟨ham, ha0⟩, hbm, hb0⟩
  · exact ⟨hz, .inl hcls⟩
  · rw [hbm, hb0, and_mask8] at hb
    exact ⟨hz, .inr (.inl ⟨hcls, hb⟩)⟩
  · rw [hbm, hb0, and_mask8] at hb
    rw [ham, ha0, and_mask16] at ha
    exact ⟨hz, .inr (.inr ⟨hcls, ha, hb⟩)⟩

/-! ### The address masks of the table as ranges -/

/-- A mask of high bits reads the multiple of `2 ^ k` below the address. -/
theorem and_highMask_toNat (a : Addr) {k : Nat} : (a &&& BitVec.allOnes 16 <<< k).toNat = a.toNat / 2 ^ k * 2 ^ k := by
  rw [← BitVec.shiftLeft_ushiftRight, BitVec.toNat_shiftLeft, BitVec.toNat_ushiftRight, Nat.shiftRight_eq_div_pow,
    Nat.shiftLeft_eq]
  exact Nat.mod_eq_of_lt (lt_of_le_of_lt (Nat.div_mul_le_self _ _) a.isLt)

theorem and_vramMask_iff (a : Addr) : a &&& 0xE000 = 0x8000 ↔ inVram a := by
  rw [show (0xE000 : Addr) = BitVec.allOnes 16 <<< 13 by decide, ← BitVec.toNat_inj, and_highMask_toNat]
  simp only [BitVec.ofNat_eq_ofNat, BitVec.toNat_ofNat, inVram]
  omega

/-- The two OAM patterns of the table cover the 160 addresses (R63). -/
theorem and_oamMasks_iff (a : Addr) :
    a &&& 0xFF80 = 0xFE00 ∨ a &&& 0xFFE0 = 0xFE80 ↔ inOam Config.default a := by
  rw [show (0xFF80 : Addr) = BitVec.allOnes 16 <<< 7 by decide,
    show (0xFFE0 : Addr) = BitVec.allOnes 16 <<< 5 by decide, ← BitVec.toNat_inj, ← BitVec.toNat_inj, and_highMask_toNat, and_highMask_toNat]
  simp only [BitVec.ofNat_eq_ofNat, BitVec.toNat_ofNat, inOam, Config.default]
  omega

/-! ### Bus words in the table -/

theorem rowMatches_rdWord {a : Addr} {row : String × Cmd × Cmd}
    (hhead : cmdClass row.2.1 = 0 ∧ cmdZero row.2.1 = 0 ∧ cmdB row.2.1 = 0)
    (ha : a &&& cmdA row.2.2 = cmdA row.2.1) : rowMatches (rdWord a) row = true := by
  obtain ⟨hk, hz, hb⟩ := hhead
  simp [rowMatches_iff, rdWord, hk, hz, hb, ha]

theorem rowMatches_wrWord {a : Addr} {v : Byte} {row : String × Cmd × Cmd}
    (hhead : 1 &&& cmdClass row.2.2 = cmdClass row.2.1 ∧ cmdZero row.2.1 = 0 ∧ cmdB row.2.2 = 0 ∧ cmdB row.2.1 = 0)
    (ha : a &&& cmdA row.2.2 = cmdA row.2.1) : rowMatches (wrWord a v) row = true := by
  obtain ⟨hk, hz, hbm, hb⟩ := hhead
  simpa [rowMatches_iff, wrWord, hz, hbm, hb, ha] using hk

/-- The address pattern of every bus row that is no fallback (R63). -/
theorem busRows_address : ∀ row ∈ opcodeRows, cmdClass row.2.1 = 0 ∨ cmdClass row.2.1 = 1 →
    cmdA row.2.2 = 0xE000 ∧ cmdA row.2.1 = 0x8000 ∨ cmdA row.2.2 = 0xFF80 ∧ cmdA row.2.1 = 0xFE00 ∨
    cmdA row.2.2 = 0xFFE0 ∧ cmdA row.2.1 = 0xFE80 ∨
    cmdA row.2.2 = 0xFFFF ∧ cmdA row.2.1 ∈ Config.default.regAddr.toList := by decide

/-- A bus word of an unmapped address matches fallback rows only. -/
theorem not_rowMatches_of_isUnmapped {w : Cmd} (hcls : cmdClass w = 0 ∨ cmdClass w = 1)
    (h : isUnmapped Config.default (cmdA w)) : ∀ row ∈ opcodeRows, ¬ rowMatches w row = true := by
  intro row hmem hrow
  obtain ⟨hk, -, ha, -⟩ := (rowMatches_iff w row).mp hrow
  obtain ⟨-, hkm, -⟩ := tableRows_header row (List.mem_append_left _ hmem)
  rw [hkm, and_mask4] at hk
  obtain ⟨hvram, hoam, hreg⟩ := h
  rcases busRows_address row hmem (hk ▸ hcls) with ⟨hm, hp⟩ | ⟨hm, hp⟩ | ⟨hm, hp⟩ | ⟨hm, hp⟩ <;> rw [hm] at ha
  · exact hvram ((and_vramMask_iff _).mp (ha.trans hp))
  · exact hoam ((and_oamMasks_iff _).mp (.inl (ha.trans hp)))
  · exact hoam ((and_oamMasks_iff _).mp (.inr (ha.trans hp)))
  · rw [and_mask16] at ha
    exact hreg (ha ▸ hp)

/-- The table's row for RD and for WR of each register (R63). -/
theorem registerRows (r : RegName) :
    (∃ row ∈ opcodeRows, row.1 = mnemonic (rdReg r) ∧ cmdClass row.2.1 = 0 ∧ cmdZero row.2.1 = 0 ∧
      cmdB row.2.1 = 0 ∧ cmdA row.2.2 = 0xFFFF ∧ cmdA row.2.1 = Config.default.regAddr.get r) ∧
    ∃ row ∈ opcodeRows, row.1 = mnemonic (wrReg 0 r) ∧ (1 &&& cmdClass row.2.2 = cmdClass row.2.1 ∧
      cmdZero row.2.1 = 0 ∧ cmdB row.2.2 = 0 ∧ cmdB row.2.1 = 0) ∧ cmdA row.2.2 = 0xFFFF ∧
      cmdA row.2.1 = Config.default.regAddr.get r := by
  cases r <;> decide

theorem mnemonic_wrReg (v : Byte) (r : RegName) : mnemonic (wrReg v r) = mnemonic (wrReg 0 r) := by cases r <;> rfl

theorem tableMnemonic_rdWord (a : Addr) : tableMnemonic (rdWord a) = some (mnemonic (rdRow Config.default a)) := by
  rcases busTarget_cases Config.default a with ⟨ht, ha⟩ | ⟨ht, -, ha⟩ | ⟨r, ht, ha⟩ | ⟨ht, ha⟩
  · rw [rdRow_of_target_vram ht]
    exact tableMnemonic_of_mem (row := ("RD.VRAM", 0x00800000, 0xFFE000FF)) (by decide)
      (rowMatches_rdWord (by decide) ((and_vramMask_iff a).mpr ha))
  · rw [rdRow_of_target_oam ht]
    rcases (and_oamMasks_iff a).mpr ha with ha | ha
    · exact tableMnemonic_of_mem (row := ("RD.OAM", 0x00FE0000, 0xFFFF80FF)) (by decide)
        (rowMatches_rdWord (by decide) ha)
    · exact tableMnemonic_of_mem (row := ("RD.OAM", 0x00FE8000, 0xFFFFE0FF)) (by decide)
        (rowMatches_rdWord (by decide) ha)
  · obtain ⟨⟨row, hmem, hname, hk, hz, hb, hm, hp⟩, -⟩ := registerRows r
    rw [rdRow_of_target_reg ht, ← hname]
    exact tableMnemonic_of_mem hmem (rowMatches_rdWord ⟨hk, hz, hb⟩ (by rw [hm, and_mask16, hp, ha]))
  · have hcls : cmdClass (rdWord a) = 0 ∨ cmdClass (rdWord a) = 1 := .inl (cmdClass_cmdWord ..)
    have haddr : isUnmapped Config.default (cmdA (rdWord a)) := by rwa [rdWord, cmdA_cmdWord]
    have hrow : rowMatches (rdWord a) ("RD.UNMAPPED", 0x00000000, 0xFF0000FF) = true :=
      rowMatches_rdWord (by decide) BitVec.and_zero
    rw [rdRow_of_target_unmapped ht, tableMnemonic_of_not_mem (not_rowMatches_of_isUnmapped hcls haddr), fallbackRows,
      List.find?_cons_of_pos hrow]
    rfl

theorem tableMnemonic_wrWord (a : Addr) (v : Byte) :
    tableMnemonic (wrWord a v) = some (mnemonic (wrRow Config.default a v)) := by
  rcases busTarget_cases Config.default a with ⟨ht, ha⟩ | ⟨ht, -, ha⟩ | ⟨r, ht, ha⟩ | ⟨ht, ha⟩
  · rw [wrRow_of_target_vram ht]
    exact tableMnemonic_of_mem (row := ("WR.VRAM", 0x10800000, 0xFFE00000)) (by decide)
      (rowMatches_wrWord (by decide) ((and_vramMask_iff a).mpr ha))
  · rw [wrRow_of_target_oam ht]
    rcases (and_oamMasks_iff a).mpr ha with ha | ha
    · exact tableMnemonic_of_mem (row := ("WR.OAM", 0x10FE0000, 0xFFFF8000)) (by decide)
        (rowMatches_wrWord (by decide) ha)
    · exact tableMnemonic_of_mem (row := ("WR.OAM", 0x10FE8000, 0xFFFFE000)) (by decide)
        (rowMatches_wrWord (by decide) ha)
  · obtain ⟨-, row, hmem, hname, hhead, hm, hp⟩ := registerRows r
    rw [wrRow_of_target_reg ht, mnemonic_wrReg, ← hname]
    exact tableMnemonic_of_mem hmem (rowMatches_wrWord hhead (by rw [hm, and_mask16, hp, ha]))
  · have hcls : cmdClass (wrWord a v) = 0 ∨ cmdClass (wrWord a v) = 1 := .inr (cmdClass_cmdWord ..)
    have haddr : isUnmapped Config.default (cmdA (wrWord a v)) := by rwa [wrWord, cmdA_cmdWord]
    have hrd : ¬ rowMatches (wrWord a v) ("RD.UNMAPPED", 0x00000000, 0xFF0000FF) = true := fun h => by
      have hk := ((rowMatches_iff _ _).mp h).1
      rw [wrWord, cmdClass_cmdWord] at hk
      exact absurd hk (by decide)
    have hwr : rowMatches (wrWord a v) ("WR.UNMAPPED", 0x10000000, 0xFF000000) = true :=
      rowMatches_wrWord (by decide) BitVec.and_zero
    rw [wrRow_of_target_unmapped ht, tableMnemonic_of_not_mem (not_rowMatches_of_isUnmapped hcls haddr), fallbackRows,
      List.find?_cons_of_neg hrd, List.find?_cons_of_pos hwr]
    rfl

/-- Settles O5: a word that does not decode matches no row, for every row reads the fields that must be 0; a bus word
matches the row of its address; the other operations' rows are matched by class. -/
theorem opcodeTableNamesDecodedRow : Obligations.OpcodeTableNamesDecodedRow := by
  intro w
  cases hdec : decode Config.default w with
  | error why =>
    have hnone : (opcodeRows ++ fallbackRows).find? (rowMatches w) = none := by
      refine List.find?_eq_none.mpr fun row hmem hrow => ?_
      obtain ⟨i, hi⟩ := decodes_of_rowMatches hmem hrow
      exact absurd (hdec.symm.trans hi) (by simp)
    rw [tableMnemonic, hnone]
    rfl
  | ok i =>
    obtain ⟨hz, hd⟩ := decode_eq_ok_iff.mp hdec
    cases hd with
    | rd hcls hb =>
      conv_lhs => rw [← eq_cmdWord hz hcls rfl hb]
      exact tableMnemonic_rdWord _
    | wr hcls =>
      conv_lhs => rw [← eq_cmdWord hz hcls rfl rfl]
      exact tableMnemonic_wrWord _ _
    | modeDone hcls ha hb => rw [← eq_cmdWord hz hcls ha hb]; rfl
    | getPixel hcls hb =>
      refine tableMnemonic_of_mem (row := ("GETPIXEL", 0x30000000, 0xFF0000FF)) (by decide)
        ((rowMatches_iff w _).mpr ?_)
      rw [hz, hcls, hb]
      exact ⟨rfl, rfl, BitVec.and_zero, rfl⟩
    | snapshot hcls ha hb => rw [← eq_cmdWord hz hcls ha hb]; rfl
    | reset hcls ha hb => rw [← eq_cmdWord hz hcls ha hb]; rfl

end Sys2Proof
end

section
/-!
The bus address decode and the step (20_memory.md R41, R47; 30_encoding.md R64): what an address selects, as an
equivalence for each target, and a step as the instruction its word spells.
-/

namespace Sys2Proof

/-- Settles O3: the words of the spec's examples are closed terms. -/
theorem exampleWordsDecode : Obligations.ExampleWordsDecode := by
  unfold Obligations.ExampleWordsDecode
  decide

/-! ## What an address selects -/

/-- The addresses of each target (R41). -/
def inTarget (c : Config) (a : Addr) : BusTarget → Prop
  | .vram => inVram a
  | .oam => inOam c a
  | .reg r => a = c.regAddr.get r
  | .unmapped => isUnmapped c a

/-- An address is one of those of the target it selects. -/
theorem inTarget_busTarget (c : Config) (a : Addr) : inTarget c a (busTarget c a) := by
  rcases busTarget_cases c a with ⟨ht, ha⟩ | ⟨ht, -, ha⟩ | ⟨r, ht, ha⟩ | ⟨ht, ha⟩ <;> rw [ht]
  · exact ha
  · exact ha
  · exact ha.symm
  · exact ha

theorem inTarget_of_busTarget {c : Config} {a : Addr} {t : BusTarget} (h : busTarget c a = t) : inTarget c a t :=
  h ▸ inTarget_busTarget c a

/-- In a good configuration the targets' addresses do not meet, so they decide the target. -/
theorem busTarget_eq_iff {c : Config} (hc : c.decodeDisjoint) {a : Addr} {t : BusTarget} :
    busTarget c a = t ↔ inTarget c a t := by
  refine ⟨inTarget_of_busTarget, fun h => ?_⟩
  cases t with
  | vram => exact busTarget_vram h
  | oam => exact busTarget_oam hc h
  | reg r => exact (show a = c.regAddr.get r from h) ▸ busTarget_reg hc r
  | unmapped => exact busTarget_unmapped h

/-- The eleven addresses are those of the eleven names (R11). -/
theorem mem_regAddrs_iff {t : RegAddrs} {a : Addr} : a ∈ t.toList ↔ ∃ r, a = t.get r := by
  refine ⟨fun h => ?_, fun ⟨r, hr⟩ => hr ▸ get_mem_toList t r⟩
  simp only [RegAddrs.toList, List.mem_cons, List.not_mem_nil, or_false] at h
  rcases h with h | h | h | h | h | h | h | h | h | h | h
  exacts [⟨.lcdc, h⟩, ⟨.stat, h⟩, ⟨.scy, h⟩, ⟨.scx, h⟩, ⟨.ly, h⟩, ⟨.lyc, h⟩, ⟨.bgp, h⟩, ⟨.obp0, h⟩, ⟨.obp1, h⟩,
    ⟨.wy, h⟩, ⟨.wx, h⟩]

/-- Settles O6: the addresses of each target decide it, and a configuration whose ranges meet is not `Config.wf`. -/
theorem addressSelectsOneTarget : Obligations.AddressSelectsOneTarget := by
  refine ⟨fun c a hc => ?_, fun s hbad => if_neg fun hc => hbad hc.1, by decide⟩
  have htarget {t : BusTarget} := busTarget_eq_iff hc.1 (a := a) (t := t)
  refine ⟨htarget, htarget, fun r => htarget, ?_⟩
  rw [htarget, inTarget, isUnmapped, mem_regAddrs_iff, not_exists]

/-! ## The step -/

/-- A step on a pending word that decodes is its instruction. -/
theorem step_of_decode {s : Machine.State} {w : Cmd} {rest : List Cmd} {i : Instr} (hc : s.cfg.wf)
    (hw : s.cmds = w :: rest) (hd : decode s.cfg w = .ok i) :
    Machine.step s = Machine.exec i { s with cmds := rest } := by
  rw [Machine.step_cons hc hw, Machine.stepWord, hd]

/-- Settles O7: a word put in by `withFetchWord` is the head of the queue, and what remains is the queue before. -/
theorem stepRunsDecodedInstr : Obligations.StepRunsDecodedInstr := by
  refine ⟨fun s w rest i hc hw hd => step_of_decode hc hw hd, fun s w i hc hd => ?_, fun s hc hnil => ?_⟩
  · exact step_of_decode (s := s.withFetchWord 32 w) hc rfl hd
  · simp only [Machine.step, if_pos hc, hnil]

end Sys2Proof
end

section
/-!
MODE_DONE (47_timing_fsm_and_output.md R210 to R215): the comparison of `set_ly`, one equation for each transition of
the mode machine, and what every transition keeps.
-/

namespace Sys2Proof.Machine

/-! ## `set_ly` (R195) -/

theorem setLy_eq (s : State) (v : Byte) : setLy s v = { s with ly := v, lycMatch := s.lyc == v } := by
  rw [setLy, BEq.comm]

theorem setLyFires_eq (s : State) (v : Byte) : setLyFires s v = (s.lyc == v && bit s.ie s.cfg.lycIeBit) := by
  rw [setLyFires, BEq.comm]

/-- Settles O20: `set_ly` compares the value it assigns with LYC. -/
theorem setLyComparesAndFires : Obligations.SetLyComparesAndFires := by
  refine ⟨fun s v => ⟨rfl, by simp [setLyFires]⟩, fun s v hlyc hie => ?_⟩
  simp [setLyFires, hlyc, hie]

/-! ## One equation for each transition -/

/-- MODE_DONE with the LCD off (R211). -/
theorem execModeDone_of_off {s : State} (hoff : s.lcdOn = false) :
    execModeDone s = .next (s.respond (.lycIrq false)) := by
  simp [execModeDone, hoff, State.respond]

/-- MODE_DONE in OAMScan (R212). -/
theorem execModeDone_of_oamScan {s : State} (hon : s.lcdOn = true) (hmode : s.mode = .oamScan) :
    execModeDone s = .next ((renderLine { s with mode := .drawing } s.ly.toNat).respond (.lycIrq false)) := by
  simp [execModeDone, hon, hmode, modeDoneOamScan, State.respond]

/-- MODE_DONE in HBlank before the last visible line (R214). -/
theorem execModeDone_of_hblank_visible {s : State} (hon : s.lcdOn = true) (hmode : s.mode = .hblank)
    (hly : s.ly.toNat < 143) :
    execModeDone s = .next ((enterOamScan (setLy s (s.ly + 1))).respond (.lycIrq (setLyFires s (s.ly + 1)))) := by
  simp [execModeDone, hon, hmode, modeDoneHBlank, State.respond, show ¬ 144 ≤ s.ly.toNat + 1 by omega]

/-- MODE_DONE in HBlank from the last visible line on (R214). -/
theorem execModeDone_of_hblank_last {s : State} (hon : s.lcdOn = true) (hmode : s.mode = .hblank)
    (hly : 143 ≤ s.ly.toNat) :
    execModeDone s =
      .next (State.respond { setLy s (s.ly + 1) with mode := .vblank } (.lycIrq (setLyFires s (s.ly + 1)))) := by
  simp [execModeDone, hon, hmode, modeDoneHBlank, State.respond, show 144 ≤ s.ly.toNat + 1 by omega]

/-- MODE_DONE in VBlank before the last line (R215). -/
theorem execModeDone_of_vblank_next {s : State} (hon : s.lcdOn = true) (hmode : s.mode = .vblank)
    (hly : s.ly.toNat < 153) :
    execModeDone s = .next ((setLy s (s.ly + 1)).respond (.lycIrq (setLyFires s (s.ly + 1)))) := by
  simp [execModeDone, hon, hmode, modeDoneVBlank, State.respond, show ¬ 153 ≤ s.ly.toNat by omega]

/-- MODE_DONE in VBlank at the last line: the wrap leaves what turning the LCD on leaves (R215, R220). -/
theorem execModeDone_of_vblank_wrap {s : State} (hon : s.lcdOn = true) (hmode : s.mode = .vblank)
    (hly : 153 ≤ s.ly.toNat) :
    execModeDone s = .next ((lcdOnState s).respond (.lycIrq (setLyFires s 0))) := by
  simp [execModeDone, hon, hmode, modeDoneVBlank, State.respond, hly, lcdOnState]

/-- Settles O21: `execModeDone_of_off`. -/
theorem modeDoneHoldsWithLcdOff : Obligations.ModeDoneHoldsWithLcdOff := fun _ hoff => execModeDone_of_off hoff

/-- Settles O23: line 143 is followed by V-Blank; the entry into OAMScan on another line, which is not line 0, scans
under the per-line policy and keeps the records under the other one. -/
theorem modeDoneEndsVisibleLine : Obligations.ModeDoneEndsVisibleLine := by
  intro s hon hmode hly
  have hne (h : s.ly ≠ 143) : s.ly.toNat < 143 ∧ s.ly + 1 ≠ 0 := by bv_omega
  refine ⟨fun h => ?_, fun h hpol => ?_, fun h hpol => ?_⟩ <;> rw [exec_modeDone]
  · rw [execModeDone_of_hblank_last hon hmode (by simp [h]), setLy_eq, setLyFires_eq, h]
    rfl
  · have hscan : (setLy s (s.ly + 1)).cfg.oamScanPolicy = .perLine ∨ (setLy s (s.ly + 1)).ly = 0 := .inl hpol
    rw [execModeDone_of_hblank_visible hon hmode (hne h).1, enterOamScan_scans hscan, setLy_eq, setLyFires_eq]
    rfl
  · have hkeep : ¬ ((setLy s (s.ly + 1)).cfg.oamScanPolicy = .perLine ∨ (setLy s (s.ly + 1)).ly = 0) := by
      simpa [hpol] using (hne h).2
    rw [execModeDone_of_hblank_visible hon hmode (hne h).1, enterOamScan_keeps hkeep, setLy_eq, setLyFires_eq]
    rfl

/-- Settles O24: the wrap leaves what turning the LCD on leaves; every other line only counts on. -/
theorem modeDoneEndsVBlankLine : Obligations.ModeDoneEndsVBlankLine := by
  intro s hon hmode
  refine ⟨fun hly => ?_, fun hly => ?_⟩ <;> rw [exec_modeDone]
  · rw [execModeDone_of_vblank_wrap hon hmode hly, lcdOnState_eq, setLyFires_eq, BEq.comm]
    rfl
  · rw [execModeDone_of_vblank_next hon hmode hly, setLy_eq, setLyFires_eq]
    rfl

/-! ## The rendered line -/

/-- MODE_DONE in OAMScan of a visible line: the mode, row LY and the window counter (R212, R133). -/
theorem execModeDone_of_oamScan_visible {s : State} (hon : s.lcdOn = true) (hmode : s.mode = .oamScan)
    (hly : s.ly.toNat ≤ 143) :
    execModeDone s = .next
      { s with
        mode := .drawing
        fb := s.fb.setIfInBounds s.ly.toNat (some (lineRow s s.ly.toNat))
        winLine := if windowVisible s s.ly.toNat then s.winLine + 1 else s.winLine
        resp := .lycIrq false } := by
  rw [execModeDone_of_oamScan hon hmode, renderLine_eq (by omega)]
  rfl

theorem windowVisible_iff {s : State} {ly : Nat} :
    windowVisible s ly = true ↔ bit s.lcdc s.cfg.lcdcWinEn = true ∧ s.wy.toNat ≤ ly := by
  rw [windowVisible, Bool.and_eq_true, decide_eq_true_eq]
  rfl

/-- Settles O25: the equation above names every field; row LY is stored, and no other row is. -/
theorem modeDoneRendersOneRow : Obligations.ModeDoneRendersOneRow := by
  intro s hon hmode hly
  refine ⟨_, execModeDone_of_oamScan_visible hon hmode hly, ?_, fun y hy => ?_, ?_⟩
  · simp only [windowVisible_iff]
  · exact fbRow_setFbRow_ne hy (s := s) _
  · simp [show s.ly.toNat < 144 by omega]

/-! ## What every MODE_DONE keeps -/

/-- What rendering and scanning read apart from the latched records, and the model's own inputs. -/
structure KeepsSources (s t : State) : Prop extends SameRegisters s t, SameInputs s t where
  vram : t.vram = s.vram
  oam : t.oam = s.oam
  epoch : t.epoch = s.epoch
  irqDraws : t.irqDraws = s.irqDraws

/-- A change of the position, the records, the framebuffer and the response keeps the sources. -/
theorem keepsSources_of_position (s : State) (mode : Mode) (lycMatch : Bool) (ly winLine : Byte)
    (spr : Option (Vector Sprite 40)) (fb : Vector (Option Row) 144) (resp : Response) :
    KeepsSources s { s with mode, lycMatch, ly, winLine, spr, fb, resp } where
  lcdc := rfl
  ie := rfl
  scy := rfl
  scx := rfl
  lyc := rfl
  bgp := rfl
  obp0 := rfl
  obp1 := rfl
  wy := rfl
  wx := rfl
  cfg := rfl
  cmds := rfl
  vram := rfl
  oam := rfl
  epoch := rfl
  irqDraws := rfl

theorem KeepsSources.refl (s : State) : KeepsSources s s := keepsSources_of_position s ..

theorem KeepsSources.trans {s t u : State} (h : KeepsSources s t) (k : KeepsSources t u) : KeepsSources s u where
  lcdc := k.lcdc.trans h.lcdc
  ie := k.ie.trans h.ie
  scy := k.scy.trans h.scy
  scx := k.scx.trans h.scx
  lyc := k.lyc.trans h.lyc
  bgp := k.bgp.trans h.bgp
  obp0 := k.obp0.trans h.obp0
  obp1 := k.obp1.trans h.obp1
  wy := k.wy.trans h.wy
  wx := k.wx.trans h.wx
  cfg := k.cfg.trans h.cfg
  cmds := k.cmds.trans h.cmds
  vram := k.vram.trans h.vram
  oam := k.oam.trans h.oam
  epoch := k.epoch.trans h.epoch
  irqDraws := k.irqDraws.trans h.irqDraws

/-- `enter_oamscan` changes the mode and the records only (R220). -/
theorem enterOamScan_frame (s : State) :
    enterOamScan s = { s with mode := .oamScan, spr := (enterOamScan s).spr } := by
  unfold enterOamScan
  split <;> rfl

/-- Everything MODE_DONE can do (R210): one case for the LCD off and one for each transition. -/
inductive ModeDoneStep (s : State) : State → Prop
  | off (hoff : s.lcdOn = false) : ModeDoneStep s (s.respond (.lycIrq false))
  | render (hon : s.lcdOn = true) (hmode : s.mode = .oamScan) :
      ModeDoneStep s ((renderLine { s with mode := .drawing } s.ly.toNat).respond (.lycIrq false))
  | leaveDrawing (hon : s.lcdOn = true) (hmode : s.mode = .drawing) :
      ModeDoneStep s (State.respond { s with mode := .hblank } (.lycIrq false))
  | nextLine (hon : s.lcdOn = true) (hmode : s.mode = .hblank) (hly : s.ly.toNat < 143) :
      ModeDoneStep s ((enterOamScan (setLy s (s.ly + 1))).respond (.lycIrq (setLyFires s (s.ly + 1))))
  | enterVBlank (hon : s.lcdOn = true) (hmode : s.mode = .hblank) (hly : 143 ≤ s.ly.toNat) :
      ModeDoneStep s
        (State.respond { setLy s (s.ly + 1) with mode := .vblank } (.lycIrq (setLyFires s (s.ly + 1))))
  | nextVBlankLine (hon : s.lcdOn = true) (hmode : s.mode = .vblank) (hly : s.ly.toNat < 153) :
      ModeDoneStep s ((setLy s (s.ly + 1)).respond (.lycIrq (setLyFires s (s.ly + 1))))
  | wrap (hon : s.lcdOn = true) (hmode : s.mode = .vblank) (hly : 153 ≤ s.ly.toNat) :
      ModeDoneStep s ((lcdOnState s).respond (.lycIrq (setLyFires s 0)))

/-- MODE_DONE always answers a next state, by one of its transitions. -/
theorem exec_modeDone_next (s : State) : ∃ t, exec .modeDone s = .next t ∧ ModeDoneStep s t := by
  cases hon : s.lcdOn with
  | false => exact ⟨_, execModeDone_of_off hon, .off hon⟩
  | true =>
    cases hmode : s.mode with
    | oamScan => exact ⟨_, execModeDone_of_oamScan hon hmode, .render hon hmode⟩
    | drawing => exact ⟨_, execModeDone_of_drawing hon hmode, .leaveDrawing hon hmode⟩
    | hblank =>
      rcases Nat.lt_or_ge s.ly.toNat 143 with hly | hly
      · exact ⟨_, execModeDone_of_hblank_visible hon hmode hly, .nextLine hon hmode hly⟩
      · exact ⟨_, execModeDone_of_hblank_last hon hmode hly, .enterVBlank hon hmode hly⟩
    | vblank =>
      rcases Nat.lt_or_ge s.ly.toNat 153 with hly | hly
      · exact ⟨_, execModeDone_of_vblank_next hon hmode hly, .nextVBlankLine hon hmode hly⟩
      · exact ⟨_, execModeDone_of_vblank_wrap hon hmode hly, .wrap hon hmode hly⟩

theorem modeDoneStep_of_exec {s t : State} (h : exec .modeDone s = .next t) : ModeDoneStep s t := by
  obtain ⟨t', ht, hstep⟩ := exec_modeDone_next s
  cases ht.symm.trans h
  exact hstep

/-- No transition of MODE_DONE writes a source. -/
theorem ModeDoneStep.keepsSources {s t : State} (h : ModeDoneStep s t) : KeepsSources s t := by
  cases h with
  | off => exact keepsSources_of_position s ..
  | render => rw [renderLine_frame]; exact keepsSources_of_position s ..
  | leaveDrawing => exact keepsSources_of_position s ..
  | nextLine => rw [enterOamScan_frame]; exact keepsSources_of_position s ..
  | enterVBlank => exact keepsSources_of_position s ..
  | nextVBlankLine => exact keepsSources_of_position s ..
  | wrap => rw [lcdOnState_eq]; exact keepsSources_of_position s ..

end Sys2Proof.Machine
end

section
/-!
The register bank (46_register_bank.md): the plain registers, the bits of STAT, and WR.LCDC with its toggles of the
master enable.
-/

namespace Sys2Proof.Machine

/-! ## Plain registers and unmapped addresses -/

/-- A read answers and leaves the rest (R170). -/
theorem answerRead_regRead (s : State) (r : RegName) :
    answerRead s (regRead s r) = .next { s with resp := .rdata (regRead s r) } := rfl

/-- Settles O12: each read is `answerRead` of its register, and the words are closed terms. -/
theorem registerReadsAnswerStoredByte : Obligations.RegisterReadsAnswerStoredByte := by
  refine ⟨fun s => ?_, by decide⟩
  exact ⟨answerRead_regRead s .lcdc, answerRead_regRead s .scy, answerRead_regRead s .scx, answerRead_regRead s .ly,
    answerRead_regRead s .lyc, answerRead_regRead s .bgp, answerRead_regRead s .obp0, answerRead_regRead s .obp1,
    answerRead_regRead s .wy, answerRead_regRead s .wx⟩

/-- Settles O13: each write is `answerIrq` of the state with its register stored. -/
theorem plainRegisterWritesStoreByte : Obligations.PlainRegisterWritesStoreByte := by
  intro v s
  exact ⟨answerIrq_eq { s with scy := v } false, answerIrq_eq { s with scx := v } false,
    answerIrq_eq { s with bgp := v } false, answerIrq_eq { s with obp0 := v } false,
    answerIrq_eq { s with obp1 := v } false, answerIrq_eq { s with wy := v } false,
    answerIrq_eq { s with wx := v } false⟩

/-- Settles O42: an unmapped read answers 0xFF, an unmapped write 0 (R193, R194). -/
theorem unmappedReadAndWrite : Obligations.UnmappedReadAndWrite := fun s _ _ =>
  ⟨answerRead_eq s 0xFF, answerIrq_eq s false⟩

/-- WR.LYC, said once (R181). -/
theorem exec_wrLyc (v : Byte) (s : State) :
    exec (.wrLyc v) s = .next { s with lyc := v, resp := .lycIrq false } := rfl

/-- MODE_DONE in HBlank compares the next line with LYC, whatever mode follows (R214, R195). -/
theorem lycMatch_of_modeDone_hblank {s u : State} (hon : s.lcdOn = true) (hmode : s.mode = .hblank)
    (h : exec .modeDone s = .next u) : u.lycMatch = (s.ly + 1 == s.lyc) := by
  cases modeDoneStep_of_exec h with
  | nextLine => simp
  | enterVBlank => simp
  | off hoff => exact absurd (hon.symm.trans hoff) nofun
  | render _ hother | leaveDrawing _ hother | nextVBlankLine _ hother | wrap _ hother =>
    exact absurd (hmode.symm.trans hother) nofun

/-- Settles O17: WR.LYC stores, and the MODE_DONE that ends the line is the next comparison, with the byte stored. -/
theorem lycWriteMakesNoComparison : Obligations.LycWriteMakesNoComparison := by
  refine ⟨exec_wrLyc, fun v s t u hon hmode _ ht hu => ?_⟩
  cases (exec_wrLyc v s).symm.trans ht
  exact ⟨rfl, lycMatch_of_modeDone_hblank (s := { s with lyc := v, resp := .lycIrq false }) hon hmode hu⟩

/-! ## STAT -/

/-- The bits of the read value of STAT (R17, R174), before any assumption on the mask. -/
theorem statRead_getLsbD (s : State) {i : Nat} (hi : i < 8) :
    (statRead s).getLsbD i =
      (s.ie.getLsbD i && s.cfg.statWmask.getLsbD i || decide (i = 2) && s.lycMatch ||
        decide (i < 2) && s.mode.code.getLsbD i) := by
  have hmatch : ((BitVec.ofBool s.lycMatch).setWidth 8 <<< 2).getLsbD i = (decide (i = 2) && s.lycMatch) := by
    interval_cases i <;> simp
  have hmode : (s.mode.code.setWidth 8).getLsbD i = (decide (i < 2) && s.mode.code.getLsbD i) := by
    rcases Nat.lt_or_ge i 2 with h | h
    · simp [h, hi]
    · simp [hi, Nat.not_lt.mpr h, BitVec.getLsbD_of_ge _ _ h]
  simp only [statRead, BitVec.getLsbD_or, BitVec.getLsbD_and, hmatch, hmode]

/-- The mask of a covered configuration keeps off the mode and match bits (R17). -/
theorem statWmask_getLsbD_low {c : Config} (h : c.statOk) {i : Nat} (hi : i < 3) : c.statWmask.getLsbD i = false := by
  have hbit := congrArg (·.getLsbD i) h.1
  interval_cases i <;> simpa using hbit

/-- Settles O14: the mask leaves bits 2 to 0 to the match flag and the mode. -/
theorem statReadIsAssembled : Obligations.StatReadIsAssembled := by
  intro s hc
  have hlow {i : Nat} (hi : i < 3) : s.cfg.statWmask.getLsbD i = false := statWmask_getLsbD_low hc.2.1 hi
  refine ⟨statRead s, exec_rdStat s, fun i hi => ?_, fun hmask => ?_⟩
  · rw [statRead_getLsbD s hi]
    split
    · rename_i h2
      simp [hlow (Nat.lt_succ_of_lt h2), h2, h2.ne]
    · rename_i h2
      split
      · rename_i heq
        have hmask : s.cfg.statWmask.getLsbD 2 = false := hlow (by decide)
        rw [heq, hmask]
        simp
      · rename_i hne
        simp [h2, hne]
  · rw [statRead_getLsbD s (by decide), hmask]
    simp

/-! ## WR.LCDC -/

/-- The `lyc_irq` of a toggle: a free bit when the comparison fired (R171). -/
theorem answerLcdcIrq_eq (s : State) (fire : Bool) :
    answerLcdcIrq s fire =
      { s with
        resp := .lycIrq (fire && Config.freeIrq s.irqDraws)
        irqDraws := if fire then s.irqDraws + 1 else s.irqDraws } := by
  cases fire <;> rfl

/-- Settles O18: the three cases of `execWrLcdc_cases`, with `lcdOff` and `lcdOnState` written out. -/
theorem lcdcWriteEffects : Obligations.LcdcWriteEffects := by
  intro v s
  refine ⟨fun hsame => ?_, fun hon hv => ?_, fun hoff hv => ?_⟩
  · have h : execWrLcdc v s = .next { storeLcdc v s with resp := .lycIrq false } := by
      cases hon : s.lcdOn <;> simp [execWrLcdc, answerLcdcIrq, hsame, hon]
    exact h
  · have h : execWrLcdc v s = .next (answerLcdcIrq (lcdOff (storeLcdc v s)) (setLyFires s 0)) := by
      simp [execWrLcdc, hon, hv]
    refine h.trans ?_
    rw [answerLcdcIrq_eq, lcdOff, setLy_eq, setLyFires_eq]
    rfl
  · have h : execWrLcdc v s = .next (answerLcdcIrq (lcdOnState (storeLcdc v s)) (setLyFires s 0)) := by
      simp [execWrLcdc, hoff, hv]
    refine h.trans ?_
    rw [answerLcdcIrq_eq, lcdOnState_eq, setLyFires_eq, BEq.comm]
    rfl

/-- WR.LCDC always answers a next state that holds the byte written (R171). -/
theorem exec_wrLcdc_next (v : Byte) (s : State) : ∃ t, exec (.wrLcdc v) s = .next t ∧ t.lcdc = v ∧ t.cfg = s.cfg := by
  rcases execWrLcdc_cases v s with ⟨-, h⟩ | ⟨-, -, h⟩ | ⟨-, -, h⟩ <;> exact ⟨_, h, by simp, by simp⟩

/-- R134: with the old window enable 0 the counter is zeroed, whatever the write toggles. -/
theorem winLine_of_exec_wrLcdc {v : Byte} {s t : State} (h : exec (.wrLcdc v) s = .next t)
    (hwin : bit s.lcdc s.cfg.lcdcWinEn = false) : t.winLine = 0 := by
  have hstore : (storeLcdc v s).winLine = 0 := by simp [State.lcdcBit, hwin]
  rcases execWrLcdc_cases v s with ⟨-, hx⟩ | ⟨-, -, hx⟩ | ⟨-, -, hx⟩ <;> cases hx.symm.trans h
  · exact hstore
  · simp
  · simp

/-- Settles O19: the second write finds the byte of the first one as the old LCDC. -/
theorem windowEnableResetsCounter : Obligations.WindowEnableResetsCounter := by
  refine ⟨fun v s t => winLine_of_exec_wrLcdc, fun v w s t u ht hu hv => ?_, fun v s t ht hwin hsame => ?_⟩
  · obtain ⟨t', ht', hlcdc, hcfg⟩ := exec_wrLcdc_next v s
    cases ht'.symm.trans ht
    exact winLine_of_exec_wrLcdc hu (by rw [hlcdc, hcfg, hv])
  · cases ((lcdcWriteEffects v s).1 hsame).symm.trans ht
    exact if_pos hwin

end Sys2Proof.Machine
end

section
/-!
What one operation can do, said once: every operation but MODE_DONE, WR.LCDC and RESET leaves the position, LCDC, the
records and the framebuffer alone. From it: completion (R240), who moves the position (R14), who writes the picture
(R26), and when the LYC signal is 1 (R243).
-/

namespace Sys2Proof.Machine

/-- What an operation other than MODE_DONE, WR.LCDC and RESET can do: store enable bits under the mask, one byte of a
memory or plain registers, and answer anything but `lyc_irq` = 1. -/
structure MinorStep (s t : State) : Prop extends SamePosition s t, SameInputs s t where
  lcdc : t.lcdc = s.lcdc
  spr : t.spr = s.spr
  fb : t.fb = s.fb
  epoch : t.epoch = s.epoch
  ie : t.ie = s.ie ∨ ∃ v, t.ie = v &&& s.cfg.statWmask
  vram : t.vram = s.vram ∨ ∃ a v, t.vram = (vramWrite s a v).vram
  oam : t.oam = s.oam ∨ ∃ a v, t.oam = (oamWrite s a v).oam
  resp : t.resp ≠ .lycIrq true

/-- Storing plain registers and enable bits is a minor step. -/
theorem minorStep_registers (s : State) {ie scy scx lyc bgp obp0 obp1 wy wx : Byte} {resp : Response}
    (hie : ie = s.ie ∨ ∃ v, ie = v &&& s.cfg.statWmask) (hresp : resp ≠ .lycIrq true) :
    MinorStep s { s with ie, scy, scx, lyc, bgp, obp0, obp1, wy, wx, resp } where
  mode := rfl
  ly := rfl
  lycMatch := rfl
  winLine := rfl
  cfg := rfl
  cmds := rfl
  lcdc := rfl
  spr := rfl
  fb := rfl
  epoch := rfl
  ie := hie
  vram := .inl rfl
  oam := .inl rfl
  resp := hresp

theorem minorStep_respond (s : State) {r : Response} (hr : r ≠ .lycIrq true) : MinorStep s (s.respond r) :=
  minorStep_registers s (.inl rfl) hr

theorem minorStep_vramWrite (s : State) (a : Int) (v : Byte) :
    MinorStep s ((vramWrite s a v).respond (.lycIrq false)) := by
  rw [vramWrite_frame]
  exact { minorStep_respond s (r := .lycIrq false) nofun with vram := .inr ⟨a, v, rfl⟩ }

theorem minorStep_oamWrite (s : State) (i : Int) (v : Byte) :
    MinorStep s ((oamWrite s i v).respond (.lycIrq false)) := by
  rw [oamWrite_frame]
  exact { minorStep_respond s (r := .lycIrq false) nofun with oam := .inr ⟨i, v, rfl⟩ }

/-- Every operation is one of the three major ones or a minor step. -/
theorem exec_cases (i : Instr) (s : State) :
    i = .modeDone ∨ (∃ v, i = .wrLcdc v) ∨ i = .reset ∨ ∃ t, exec i s = .next t ∧ MinorStep s t := by
  have minor {t : State} (hx : exec i s = .next t) (ht : MinorStep s t) :
      i = .modeDone ∨ (∃ v, i = .wrLcdc v) ∨ i = .reset ∨ ∃ t, exec i s = .next t ∧ MinorStep s t :=
    .inr (.inr (.inr ⟨t, hx, ht⟩))
  cases i with
  | modeDone => exact .inl rfl
  | wrLcdc v => exact .inr (.inl ⟨v, rfl⟩)
  | reset => exact .inr (.inr (.inl rfl))
  | rdVram | rdOam | rdUnmapped | rdLcdc | rdStat | rdScy | rdScx | rdLy | rdLyc | rdBgp | rdObp0 | rdObp1 | rdWy
  | rdWx | getPixel | snapshot => exact minor rfl (minorStep_respond s nofun)
  | wrScy | wrScx | wrLy | wrLyc | wrBgp | wrObp0 | wrObp1 | wrWy | wrWx | wrUnmapped =>
    exact minor rfl (minorStep_registers s (.inl rfl) nofun)
  | wrStat v => exact minor rfl (minorStep_registers s (.inr ⟨v, rfl⟩) nofun)
  | wrVram a v => exact minor rfl (minorStep_vramWrite s _ v)
  | wrOam a v => exact minor rfl (minorStep_oamWrite s _ v)

/-- WR.LCDC by the toggle it makes, with the state it leaves (`lcdcWriteEffects`). -/
theorem exec_wrLcdc_cases {v : Byte} {s t : State} (h : exec (.wrLcdc v) s = .next t) :
    (bit v s.cfg.lcdcLcdEn = s.lcdOn ∧
      t = { s with lcdc := v, winLine := if bit s.lcdc s.cfg.lcdcWinEn then s.winLine else 0, resp := .lycIrq false }) ∨
    (bit v s.cfg.lcdcLcdEn ≠ s.lcdOn ∧ ∃ mode spr,
      (bit v s.cfg.lcdcLcdEn = false ∧ mode = .hblank ∧ spr = s.spr ∨
        bit v s.cfg.lcdcLcdEn = true ∧ mode = .oamScan ∧ spr = some (Vector.ofFn (scanSprite s))) ∧
      t = { s with
        lcdc := v, ly := 0, lycMatch := s.lyc == 0, mode, winLine := 0, spr
        resp := .lycIrq (s.lyc == 0 && bit s.ie s.cfg.lycIeBit && Config.freeIrq s.irqDraws)
        irqDraws := if s.lyc == 0 && bit s.ie s.cfg.lycIeBit then s.irqDraws + 1 else s.irqDraws }) := by
  obtain ⟨hsame, hturnOff, hturnOn⟩ := lcdcWriteEffects v s
  cases hon : s.lcdOn <;> cases hv : bit v s.cfg.lcdcLcdEn
  · cases (hsame (hv.trans hon.symm)).symm.trans h
    exact .inl ⟨rfl, rfl⟩
  · cases (hturnOn hon hv).symm.trans h
    exact .inr ⟨nofun, _, _, .inr ⟨rfl, rfl, rfl⟩, rfl⟩
  · cases (hturnOff hon hv).symm.trans h
    exact .inr ⟨nofun, _, _, .inl ⟨rfl, rfl, rfl⟩, rfl⟩
  · cases (hsame (hv.trans hon.symm)).symm.trans h
    exact .inl ⟨rfl, rfl⟩

/-- RESET, said once (R260). -/
theorem exec_reset (s : State) :
    exec .reset s = .next ((forgetContents
      { setLy (resetRegisters s) 0 with mode := .hblank, winLine := 0 }).respond .none) := rfl

/-- Settles O8: the minor steps by their frame, the other three by their own equations. -/
theorem everyOperationCompletes : Obligations.EveryOperationCompletes := by
  intro i s
  rcases exec_cases i s with rfl | ⟨v, rfl⟩ | rfl | ⟨t, ht, hminor⟩
  · obtain ⟨t, ht, hstep⟩ := exec_modeDone_next s
    exact ⟨t, ht, hstep.keepsSources.toSameInputs⟩
  · rcases execWrLcdc_cases v s with ⟨-, h⟩ | ⟨-, -, h⟩ | ⟨-, -, h⟩ <;> exact ⟨_, h, by simp, by simp⟩
  · exact ⟨_, exec_reset s, rfl, rfl⟩
  · exact ⟨t, ht, hminor.toSameInputs⟩

/-! ## The position -/

/-- Settles O26: a minor step keeps the position, MODE_DONE keeps it with the LCD off, and WR.LCDC without a toggle. -/
theorem onlySequencerMovesPosition : Obligations.OnlySequencerMovesPosition := by
  intro i s t h hmoved
  rcases exec_cases i s with rfl | ⟨v, rfl⟩ | rfl | ⟨t', ht, hminor⟩
  · refine .inl ⟨rfl, ?_⟩
    by_contra hoff
    cases (execModeDone_of_off (Bool.eq_false_of_not_eq_true hoff)).symm.trans h
    simp at hmoved
  · refine .inr (.inr ⟨v, rfl, fun hsame => ?_⟩)
    cases ((lcdcWriteEffects v s).1 hsame).symm.trans h
    simp at hmoved
  · exact .inr (.inl rfl)
  · cases ht.symm.trans h
    simp [hminor.mode, hminor.ly] at hmoved

/-! ## The picture -/

/-- `render_line` stores no row but its own (R216). -/
theorem fbRow_renderLine_ne (s : State) {ly y : Nat} (hy : y ≠ ly) : fbRow (renderLine s ly) y = fbRow s y := by
  by_cases hly : ly < 144
  · rw [renderLine_eq hly]
    exact fbRow_setFbRow_ne hy (s := s) _
  · rw [renderLine_out hly]
    rfl

/-- Every MODE_DONE but the one that enters Drawing keeps the framebuffer. -/
theorem samePicture_of_modeDone {s t : State} (h : exec .modeDone s = .next t)
    (hrender : ¬ (s.lcdOn = true ∧ s.mode = .oamScan)) : SamePicture s t := by
  intro y
  cases modeDoneStep_of_exec h with
  | render hon hmode => exact absurd ⟨hon, hmode⟩ hrender
  | nextLine => exact fbRow_congr (by simp) (by simp) y
  | wrap => exact fbRow_congr (by simp) (by simp) y
  | off | leaveDrawing | enterVBlank | nextVBlankLine => rfl

/-- Settles O27: rendering stores row LY, and every other operation but RESET keeps the framebuffer. -/
theorem onlyRenderingWritesPicture : Obligations.OnlyRenderingWritesPicture := by
  intro i s t h hreset
  have keeps (hsame : SamePicture s t) :
      (¬ (i = .modeDone ∧ s.lcdOn = true ∧ s.mode = .oamScan) → SamePicture s t) ∧
      ∀ y, y ≠ s.ly.toNat → fbRow t y = fbRow s y := ⟨fun _ => hsame, fun y _ => hsame y⟩
  rcases exec_cases i s with rfl | ⟨v, rfl⟩ | rfl | ⟨t', ht, hminor⟩
  · by_cases hrender : s.lcdOn = true ∧ s.mode = .oamScan
    · cases (execModeDone_of_oamScan hrender.1 hrender.2).symm.trans h
      exact ⟨fun hno => absurd ⟨rfl, hrender⟩ hno, fun y hy => fbRow_renderLine_ne { s with mode := .drawing } hy⟩
    · exact keeps (samePicture_of_modeDone h hrender)
  · refine keeps ?_
    rcases exec_wrLcdc_cases h with ⟨-, rfl⟩ | ⟨-, mode, spr, -, rfl⟩ <;> exact fun _ => rfl
  · exact absurd rfl hreset
  · cases ht.symm.trans h
    exact keeps (fbRow_congr hminor.fb hminor.epoch)

/-! ## The LYC signal -/

/-- An answer that is 1 by `set_ly` (R195): the enable is set and the value assigned is LYC. -/
theorem lycSignal_of_setLyFires {s t : State} {v : Byte} (hfires : setLyFires s v = true) (hly : t.ly = v)
    (hmatch : t.lycMatch = (v == s.lyc)) : bit s.ie s.cfg.lycIeBit = true ∧ t.ly = s.lyc ∧ t.lycMatch = true := by
  obtain ⟨heq, hie⟩ := Bool.and_eq_true_iff.mp hfires
  exact ⟨hie, hly.trans (eq_of_beq heq), hmatch.trans heq⟩

/-- MODE_DONE answers 1 only at the end of a line (R214, R215). -/
theorem ModeDoneStep.lycSignal {s t : State} (h : ModeDoneStep s t) (hresp : t.resp = .lycIrq true) :
    (bit s.ie s.cfg.lycIeBit = true ∧ t.ly = s.lyc ∧ t.lycMatch = true) ∧
    s.lcdOn = true ∧ (s.mode = .hblank ∨ s.mode = .vblank) := by
  cases h with
  | off | render | leaveDrawing => cases hresp
  | nextLine hon hmode =>
    exact ⟨lycSignal_of_setLyFires (Response.lycIrq.inj hresp) (by simp) (by simp), hon, .inl hmode⟩
  | enterVBlank hon hmode =>
    exact ⟨lycSignal_of_setLyFires (Response.lycIrq.inj hresp) (by simp) (by simp), hon, .inl hmode⟩
  | nextVBlankLine hon hmode =>
    exact ⟨lycSignal_of_setLyFires (Response.lycIrq.inj hresp) (by simp) (by simp), hon, .inr hmode⟩
  | wrap hon hmode =>
    exact ⟨lycSignal_of_setLyFires (Response.lycIrq.inj hresp) (by simp) (by simp), hon, .inr hmode⟩

/-- Settles O28: an answer of 1 is that of a `set_ly`, which only MODE_DONE at the end of a line and a toggle make. -/
theorem lycSignalOnlyWhenLyAssigned : Obligations.LycSignalOnlyWhenLyAssigned := by
  intro i s t h hresp
  rcases exec_cases i s with rfl | ⟨v, rfl⟩ | rfl | ⟨t', ht, hminor⟩
  · obtain ⟨⟨hie, hly, hmatch⟩, hon, hmode⟩ := (modeDoneStep_of_exec h).lycSignal hresp
    exact ⟨hie, hly, hmatch, .inl ⟨rfl, hon, hmode⟩⟩
  · rcases exec_wrLcdc_cases h with ⟨-, rfl⟩ | ⟨htoggle, mode, spr, -, rfl⟩
    · cases hresp
    · obtain ⟨⟨hlyc, hie⟩, -⟩ : (s.lyc = 0 ∧ bit s.ie s.cfg.lycIeBit = true) ∧ _ := by simpa using hresp
      exact ⟨hie, hlyc.symm, by simp [hlyc], .inr ⟨v, rfl, htoggle⟩⟩
  · cases (exec_reset s).symm.trans h
    cases hresp
  · cases ht.symm.trans h
    exact absurd hresp hminor.resp

end Sys2Proof.Machine
end

section
/-!
The invariant (10_state.md R29, notes/assumptions/13.md): it splits into the storage, which only the bus writes, and the
position, which only MODE_DONE, a toggle and RESET move; each operation keeps both.
-/

namespace Sys2Proof.Machine

theorem lcdOn_congr {s t : State} (hl : t.lcdc = s.lcdc) (hc : t.cfg = s.cfg) : t.lcdOn = s.lcdOn := by
  simp only [State.lcdOn, State.lcdcBit, hl, hc]

theorem byte_succ_toNat {b : Byte} (h : b.toNat < 255) : (b + 1).toNat = b.toNat + 1 := by
  rw [BitVec.toNat_add]
  exact Nat.mod_eq_of_lt (Nat.succ_lt_succ h)

/-! ## The two halves -/

/-- The clauses about the configuration, the enable bits and the memories. -/
structure StorageOk (s : State) : Prop where
  cfg_wf : s.cfg.wf
  ie_masked : s.ie &&& ~~~s.cfg.statWmask = 0
  vram_wf : s.vram.wf
  vram_range : ∀ e ∈ s.vram, e.1 < 8192
  oam_wf : s.oam.wf
  oam_range : ∀ e ∈ s.oam, e.1 < 160

/-- The clauses about the position, the window counter and the records. -/
structure PositionOk (s : State) : Prop extends s.R29 where
  win_bound : s.winLine.toNat ≤ winBound s
  scanned : s.lcdOn = true → s.spr ≠ none

theorem inv_iff {s : State} : s.Inv ↔ StorageOk s ∧ PositionOk s :=
  ⟨fun h => ⟨⟨h.cfg_wf, h.ie_masked, h.vram_wf, h.vram_range, h.oam_wf, h.oam_range⟩,
      ⟨h.toR29, h.win_bound, h.scanned⟩⟩,
    fun ⟨hs, hp⟩ => ⟨hp.toR29, hs.cfg_wf, hs.ie_masked, hp.win_bound, hp.scanned, hs.vram_wf, hs.vram_range, hs.oam_wf,
      hs.oam_range⟩⟩

/-- The storage clauses read four fields. -/
theorem StorageOk.congr {s t : State} (h : StorageOk s) (hc : t.cfg = s.cfg) (hie : t.ie = s.ie)
    (hv : t.vram = s.vram) (ho : t.oam = s.oam) : StorageOk t := by
  obtain ⟨hwf, hmask, hvwf, hvr, howf, hor⟩ := h
  exact ⟨hc ▸ hwf, by rwa [hie, hc], hv ▸ hvwf, hv ▸ hvr, ho ▸ howf, ho ▸ hor⟩

/-- The position clauses read the master enable, the mode, LY, the records and the counter, which may only fall. -/
theorem PositionOk.mono {s t : State} (h : PositionOk s) (hon : t.lcdOn = s.lcdOn) (hm : t.mode = s.mode)
    (hly : t.ly = s.ly) (hs : t.spr = s.spr) (hw : t.winLine.toNat ≤ s.winLine.toNat) : PositionOk t := by
  have hbound : winBound t = winBound s := by simp only [winBound, hon, hm, hly]
  exact ⟨⟨by rw [hly]; exact h.ly_range, by rw [hon, hly, hm]; exact h.lcd_off,
      by rw [hon, hly, hm]; exact h.visible_line, by rw [hon, hly, hm]; exact h.vblank_line, hw.trans h.win_range,
      by rw [hs]; exact h.slots⟩,
    hbound ▸ hw.trans h.win_bound, by rw [hon, hs]; exact h.scanned⟩

/-! ## Minor steps -/

/-- A minor step stores masked enable bits and bytes inside the memories, and keeps the position. -/
theorem MinorStep.inv {s t : State} (h : MinorStep s t) (hs : s.Inv) : t.Inv := by
  obtain ⟨hst, hpos⟩ := inv_iff.mp hs
  refine inv_iff.mpr ⟨⟨h.cfg ▸ hst.cfg_wf, ?_, ?_, ?_, ?_, ?_⟩,
    hpos.mono (lcdOn_congr h.lcdc h.cfg) h.mode h.ly h.spr (h.winLine ▸ le_rfl)⟩
  · rw [h.cfg]
    rcases h.ie with hie | ⟨v, hie⟩ <;> rw [hie]
    · exact hst.ie_masked
    · rw [BitVec.and_assoc, BitVec.and_not_self]
      exact BitVec.and_zero
  · rcases h.vram with hv | ⟨a, v, hv⟩ <;> rw [hv]
    · exact hst.vram_wf
    · exact vramWrite_wf hst.vram_wf a v
  · rcases h.vram with hv | ⟨a, v, hv⟩ <;> rw [hv]
    · exact hst.vram_range
    · exact vramWrite_range hst.vram_range a v
  · rcases h.oam with ho | ⟨a, v, ho⟩ <;> rw [ho]
    · exact hst.oam_wf
    · exact oamWrite_wf hst.oam_wf a v
  · rcases h.oam with ho | ⟨a, v, ho⟩ <;> rw [ho]
    · exact hst.oam_range
    · exact oamWrite_range hst.oam_range a v

/-! ## The position after each transition -/

/-- The records of a scan carry their slots (R145). -/
theorem slots_of_scan {s : State} {v : Vector Sprite 40} (h : some (Vector.ofFn (scanSprite s)) = some v) (k : Fin 40) :
    v[k].slot = k := by
  simp only [← Option.some.inj h, Fin.getElem_fin, Vector.getElem_ofFn, scanSprite_slot]

/-- The records after an entry into OAMScan: those of a scan, or the ones before (R220, R147). -/
theorem enterOamScan_spr_cases (s : State) :
    (enterOamScan s).spr = some (Vector.ofFn (scanSprite s)) ∨ (enterOamScan s).spr = s.spr := by
  by_cases h : s.cfg.oamScanPolicy = .perLine ∨ s.ly = 0
  · rw [enterOamScan_scans h]
    exact .inl rfl
  · rw [enterOamScan_keeps h]
    exact .inr rfl

/-- The start of a line with the counter not above it is a good position. -/
theorem positionOk_of_lineStart {s : State} (hon : s.lcdOn = true) (hmode : s.mode = .oamScan) (hly : s.ly.toNat ≤ 143)
    (hwin : s.winLine.toNat ≤ s.ly.toNat) (hspr : s.spr ≠ none)
    (hslots : ∀ v, s.spr = some v → ∀ k : Fin 40, v[k].slot = k) : PositionOk s where
  ly_range := by omega
  lcd_off hoff := absurd (hon.symm.trans hoff) nofun
  visible_line _ _ := hly
  vblank_line hvb := absurd (hmode.symm.trans hvb) nofun
  win_range := by omega
  slots := hslots
  win_bound := by simpa only [winBound, hon, hmode, if_true] using hwin
  scanned _ := hspr

/-- A line being drawn or drawn, with the counter not above the lines so far, is a good position. -/
theorem positionOk_of_lineRest {s : State} (hon : s.lcdOn = true) (hmode : s.mode = .drawing ∨ s.mode = .hblank)
    (hly : s.ly.toNat ≤ 143) (hwin : s.winLine.toNat ≤ s.ly.toNat + 1) (hspr : s.spr ≠ none)
    (hslots : ∀ v, s.spr = some v → ∀ k : Fin 40, v[k].slot = k) : PositionOk s where
  ly_range := by omega
  lcd_off hoff := absurd (hon.symm.trans hoff) nofun
  visible_line _ _ := hly
  vblank_line hvb := by rcases hmode with hmode | hmode <;> exact absurd (hmode.symm.trans hvb) nofun
  win_range := by omega
  slots := hslots
  win_bound := by rcases hmode with hmode | hmode <;> simpa only [winBound, hon, hmode, if_true] using hwin
  scanned _ := hspr

/-- A line of V-Blank is a good position. -/
theorem positionOk_of_vblank {s : State} (hon : s.lcdOn = true) (hmode : s.mode = .vblank)
    (hly : 144 ≤ s.ly.toNat ∧ s.ly.toNat ≤ 153) (hwin : s.winLine.toNat ≤ 144) (hspr : s.spr ≠ none)
    (hslots : ∀ v, s.spr = some v → ∀ k : Fin 40, v[k].slot = k) : PositionOk s where
  ly_range := hly.2
  lcd_off hoff := absurd (hon.symm.trans hoff) nofun
  visible_line _ hvis := absurd hmode hvis
  vblank_line _ := ⟨hon, hly⟩
  win_range := hwin
  slots := hslots
  win_bound := by simpa only [winBound, hon, hmode, if_true] using hwin
  scanned _ := hspr

/-- The LCD off at line 0 in H-Blank with the counter 0 is a good position. -/
theorem positionOk_of_off {s : State} (hoff : s.lcdOn = false) (hly : s.ly = 0) (hmode : s.mode = .hblank)
    (hwin : s.winLine = 0) (hslots : ∀ v, s.spr = some v → ∀ k : Fin 40, v[k].slot = k) : PositionOk s where
  ly_range := by simp [hly]
  lcd_off _ := ⟨hly, hmode⟩
  visible_line hon := absurd (hon.symm.trans hoff) nofun
  vblank_line hvb := absurd (hmode.symm.trans hvb) nofun
  win_range := by simp [hwin]
  slots := hslots
  win_bound := by simp [hwin]
  scanned hon := absurd (hon.symm.trans hoff) nofun

/-- The counter grows by at most one on a rendered line (R133). -/
theorem renderLine_winLine_le {s : State} {ly : Nat} (h : s.winLine.toNat < 255) :
    (renderLine s ly).winLine.toNat ≤ s.winLine.toNat + 1 := by
  have hw : (renderLine s ly).winLine = if windowVisible s ly then s.winLine + 1 else s.winLine := by
    by_cases hly : ly < 144
    · rw [renderLine_eq hly]
    · rw [renderLine_out hly]
  rw [hw]
  split
  · exact (byte_succ_toNat h).le
  · exact Nat.le_succ _

/-- What the invariant says at each mode of a lit machine. -/
theorem PositionOk.winLine_le {s : State} (h : PositionOk s) (hon : s.lcdOn = true) :
    (s.mode = .oamScan → s.winLine.toNat ≤ s.ly.toNat) ∧
    (s.mode = .drawing ∨ s.mode = .hblank → s.winLine.toNat ≤ s.ly.toNat + 1) := by
  have hwin := h.win_bound
  refine ⟨fun hmode => ?_, fun hmode => ?_⟩
  · simpa only [winBound, hon, hmode, if_true] using hwin
  · rcases hmode with hmode | hmode <;> simpa only [winBound, hon, hmode, if_true] using hwin

theorem ModeDoneStep.positionOk {s t : State} (h : ModeDoneStep s t) (hs : PositionOk s) : PositionOk t := by
  cases h with
  | off hoff => exact hs.mono rfl rfl rfl rfl le_rfl
  | render hon hmode =>
    have hly : s.ly.toNat ≤ 143 := hs.visible_line hon (by simp [hmode])
    have hwin := (hs.winLine_le hon).1 hmode
    have hcount := renderLine_winLine_le (s := { s with mode := .drawing }) (ly := s.ly.toNat)
      (show s.winLine.toNat < 255 by omega)
    rw [renderLine_frame]
    exact positionOk_of_lineRest hon (.inl rfl) hly (hcount.trans (Nat.succ_le_succ hwin)) (hs.scanned hon) hs.slots
  | leaveDrawing hon hmode =>
    exact positionOk_of_lineRest hon (.inr rfl) (hs.visible_line hon (by simp [hmode]))
      ((hs.winLine_le hon).2 (.inl hmode)) (hs.scanned hon) hs.slots
  | nextLine hon hmode hly =>
    have hsucc : (s.ly + 1).toNat = s.ly.toNat + 1 := byte_succ_toNat (by omega)
    have hwin := (hs.winLine_le hon).2 (.inr hmode)
    refine positionOk_of_lineStart ((lcdOn_congr (by simp) (by simp)).trans hon) (by simp) ?_ ?_ ?_ ?_
    · simp only [respond_ly, enterOamScan_ly, setLy_ly, hsucc]
      omega
    · simp only [respond_ly, respond_winLine, enterOamScan_ly, enterOamScan_winLine, setLy_ly, setLy_winLine, hsucc]
      exact hwin
    · rw [respond_spr]
      rcases enterOamScan_spr_cases (setLy s (s.ly + 1)) with hspr | hspr <;> rw [hspr]
      · nofun
      · exact hs.scanned hon
    · rw [respond_spr]
      rcases enterOamScan_spr_cases (setLy s (s.ly + 1)) with hspr | hspr <;> rw [hspr]
      · exact fun v => slots_of_scan
      · exact hs.slots
  | enterVBlank hon hmode hly =>
    have hvis : s.ly.toNat ≤ 143 := hs.visible_line hon (by simp [hmode])
    have hsucc : (s.ly + 1).toNat = s.ly.toNat + 1 := byte_succ_toNat (by omega)
    refine positionOk_of_vblank hon rfl ?_ hs.win_range (hs.scanned hon) hs.slots
    simp only [respond_ly, setLy_ly, hsucc]
    omega
  | nextVBlankLine hon hmode hly =>
    have hvb : 144 ≤ s.ly.toNat := (hs.vblank_line hmode).2.1
    have hsucc : (s.ly + 1).toNat = s.ly.toNat + 1 := byte_succ_toNat (by omega)
    refine positionOk_of_vblank hon hmode ?_ hs.win_range (hs.scanned hon) hs.slots
    simp only [respond_ly, setLy_ly, hsucc]
    omega
  | wrap hon hmode hly =>
    rw [lcdOnState_eq]
    exact positionOk_of_lineStart hon rfl (Nat.zero_le _) (Nat.le_refl _) nofun fun v => slots_of_scan

/-! ## The three major operations -/

theorem ModeDoneStep.inv {s t : State} (h : ModeDoneStep s t) (hs : s.Inv) : t.Inv := by
  obtain ⟨hst, hpos⟩ := inv_iff.mp hs
  have hk := h.keepsSources
  exact inv_iff.mpr ⟨hst.congr hk.cfg hk.ie hk.vram hk.oam, h.positionOk hpos⟩

/-- WR.LCDC without a toggle lowers the counter at most; a toggle starts line 0 or turns the LCD off. -/
theorem inv_of_exec_wrLcdc {v : Byte} {s t : State} (h : exec (.wrLcdc v) s = .next t) (hs : s.Inv) : t.Inv := by
  obtain ⟨hst, hpos⟩ := inv_iff.mp hs
  rcases exec_wrLcdc_cases h with ⟨hsame, rfl⟩ | ⟨-, mode, spr, ⟨hv, rfl, rfl⟩ | ⟨hv, rfl, rfl⟩, rfl⟩
  · refine inv_iff.mpr ⟨hst.congr rfl rfl rfl rfl, hpos.mono hsame rfl rfl rfl ?_⟩
    dsimp only
    split
    · exact le_rfl
    · exact Nat.zero_le _
  · exact inv_iff.mpr ⟨hst.congr rfl rfl rfl rfl, positionOk_of_off hv rfl rfl rfl hpos.slots⟩
  · exact inv_iff.mpr ⟨hst.congr rfl rfl rfl rfl,
      positionOk_of_lineStart hv rfl (Nat.zero_le _) (Nat.le_refl _) nofun fun v => slots_of_scan⟩

/-- The values RESET forces are good, whatever the rest holds (R260, D17). -/
theorem inv_of_resetValues {s : State} (hc : s.cfg.wf) (hlcdc : s.lcdc = s.cfg.resetState.lcdc)
    (hie : s.ie = s.cfg.resetState.ie) (hmode : s.mode = .hblank) (hly : s.ly = 0) (hwin : s.winLine = 0)
    (hvram : s.vram = []) (hoam : s.oam = []) (hspr : s.spr = none) : s.Inv := by
  obtain ⟨-, -, -, ⟨hoff, hmask⟩, -⟩ := id hc
  refine inv_iff.mpr ⟨⟨hc, hie ▸ hmask, by simp [hvram], by simp [hvram], by simp [hoam], by simp [hoam]⟩,
    positionOk_of_off ?_ hly hmode hwin (by simp [hspr])⟩
  rw [State.lcdOn, State.lcdcBit, hlcdc, hoff]

theorem inv_of_exec_reset {s t : State} (h : exec .reset s = .next t) (hc : s.cfg.wf) : t.Inv := by
  cases (exec_reset s).symm.trans h
  exact inv_of_resetValues hc rfl rfl rfl rfl rfl rfl rfl rfl

/-! ## Every run -/

theorem exec_inv {i : Instr} {s t : State} (h : exec i s = .next t) (hs : s.Inv) : t.Inv := by
  rcases exec_cases i s with rfl | ⟨v, rfl⟩ | rfl | ⟨t', ht, hminor⟩
  · exact (modeDoneStep_of_exec h).inv hs
  · exact inv_of_exec_wrLcdc h hs
  · exact inv_of_exec_reset h hs.cfg_wf
  · cases ht.symm.trans h
    exact hminor.inv hs

/-- A run of operations keeps the invariant. -/
theorem execList_inv {ops : List Instr} {s t : State} (h : execList ops s = .next t) (hs : s.Inv) : t.Inv := by
  induction ops generalizing s with
  | nil => cases h; exact hs
  | cons i ops ih =>
    obtain ⟨u, hu, -⟩ := everyOperationCompletes i s
    simp only [execList, hu] at h
    exact ih h (exec_inv hu hs)

/-- Settles O9: the reset state of a configuration is made of the values RESET forces. -/
theorem resetStateIsGood : Obligations.ResetStateIsGood := by
  have hgood (c : Config) (hc : c.wf) : (State.resetOf c).Inv :=
    inv_of_resetValues hc rfl rfl rfl rfl rfl rfl rfl rfl
  exact ⟨hgood _ (by decide), hgood⟩

/-- Settles O10: a step is idle or runs an operation, and the invariant does not read the queue. -/
theorem stepKeepsGoodState : Obligations.StepKeepsGoodState := by
  intro s t hs hstep
  cases hcmds : s.cmds with
  | nil =>
    simp only [step, if_pos hs.cfg_wf, hcmds] at hstep
    cases hstep
    exact hs
  | cons w rest =>
    rw [step_cons hs.cfg_wf hcmds, stepWord] at hstep
    split at hstep
    · obtain ⟨hst, hpos⟩ := inv_iff.mp hs
      exact exec_inv hstep (inv_iff.mpr ⟨hst.congr rfl rfl rfl rfl, hpos.mono rfl rfl rfl rfl le_rfl⟩)
    · cases hstep

/-- Settles O11: RESET makes a good state from any state, and the operations after it keep it good. -/
theorem invariantsHoldAfterReset : Obligations.InvariantsHoldAfterReset := by
  intro s t ops hc h
  rw [execList, exec_reset] at h
  exact (execList_inv h (inv_of_exec_reset (exec_reset s) hc)).toR29

end Sys2Proof.Machine
end

section
/-!
The bus (20_memory.md R43, R44; 60_exceptions.md R248): the RD and WR rows as `MemRead` and `MemWrite`, a read after a
write, and what a write by an external writer can change.
-/

namespace Sys2Proof.Machine

/-! ## `MemRead` and `MemWrite` -/

theorem memRead_vram {s : State} {a : Addr} (h : inVram a) : memRead s a = vramByte s (a.toNat - 0x8000) := by
  rw [memRead, busTarget_vram h]

theorem memRead_oam {s : State} {a : Addr} (hc : s.cfg.decodeDisjoint) (h : inOam s.cfg a) :
    memRead s a = oamByte s (a.toNat - s.cfg.oamBase.toNat) := by
  rw [memRead, busTarget_oam hc h]

/-- RD of a register answers its read value. -/
theorem exec_rdReg (r : RegName) (s : State) : exec (rdReg r) s = .next { s with resp := .rdata (regRead s r) } := by
  cases r <;> rfl

/-- WR of a register is its write rule. -/
theorem exec_wrReg (r : RegName) (v : Byte) (s : State) : exec (wrReg v r) s = regWrite r v s := by
  cases r <;> rfl

/-- The RD row of an address is `MemRead` (R43). -/
theorem exec_rdRow (s : State) (a : Addr) :
    exec (rdRow s.cfg a) s = .next { s with resp := .rdata (memRead s a) } := by
  rcases busTarget_cases s.cfg a with ⟨ht, ha⟩ | ⟨ht, -, ha⟩ | ⟨r, ht, -⟩ | ⟨ht, -⟩ <;> rw [memRead, ht]
  · rw [rdRow_of_target_vram ht, exec_rdVram ha]
  · rw [rdRow_of_target_oam ht, exec_rdOam ha]
  · rw [rdRow_of_target_reg ht, exec_rdReg]
  · rw [rdRow_of_target_unmapped ht]
    rfl

/-- The WR row of an address is `MemWrite` (R44). -/
theorem exec_wrRow (s : State) (a : Addr) (v : Byte) : exec (wrRow s.cfg a v) s = memWrite s a v := by
  rcases busTarget_cases s.cfg a with ⟨ht, ha⟩ | ⟨ht, -, ha⟩ | ⟨r, ht, -⟩ | ⟨ht, -⟩ <;> rw [memWrite, ht]
  · obtain ⟨hrange, hindex⟩ := addrInt_of_inVram ha
    rw [wrRow_of_target_vram ht, exec_wrVram, vramWrite, if_pos hrange, hindex]
    rfl
  · obtain ⟨hrange, hindex⟩ := oamOffset_of_inOam ha
    rw [wrRow_of_target_oam ht, exec_wrOam, oamWrite, if_pos hrange, hindex]
    rfl
  · rw [wrRow_of_target_reg ht, exec_wrReg]
  · rw [wrRow_of_target_unmapped ht]
    rfl

/-- Settles O43: the rows of each target of R41 are the cases of the two primitives. -/
theorem busRowsAreMemReadAndMemWrite : Obligations.BusRowsAreMemReadAndMemWrite := fun s a v _ =>
  ⟨exec_rdRow s a, exec_wrRow s a v⟩

/-! ## A read after a write -/

/-- `MemRead` of a memory address after `VramWrite` to a VRAM address. -/
theorem memRead_vramWrite {s : State} {a b : Addr} (hc : s.cfg.decodeDisjoint) (ha : inVram a)
    (hb : inVram b ∨ inOam s.cfg b) (v : Byte) :
    memRead (vramWrite s (addrInt a) v) b = if b = a then v else memRead s b := by
  obtain ⟨hrange, hindex⟩ := addrInt_of_inVram ha
  rcases hb with hb | hb
  · rw [memRead_vram hb, vramByte_vramWrite hrange, hindex, memRead_vram hb]
    exact if_congr ⟨fun h => BitVec.eq_of_toNat_eq (by omega), fun h => h ▸ rfl⟩ rfl rfl
  · have hne : b ≠ a := fun h => vram_oam_disjoint hc hb (h ▸ ha)
    rw [if_neg hne, memRead_oam hc hb, memRead_oam (by simpa using hc) (by simpa using hb), oamByte_vramWrite,
      vramWrite_cfg]

/-- `MemRead` of a memory address after `OamWrite` to an OAM address. -/
theorem memRead_oamWrite {s : State} {a b : Addr} (hc : s.cfg.decodeDisjoint) (ha : inOam s.cfg a)
    (hb : inVram b ∨ inOam s.cfg b) (v : Byte) :
    memRead (oamWrite s (oamOffset s.cfg a) v) b = if b = a then v else memRead s b := by
  obtain ⟨hrange, hindex⟩ := oamOffset_of_inOam ha
  rcases hb with hb | hb
  · have hne : b ≠ a := fun h => vram_oam_disjoint hc ha (h ▸ hb)
    rw [if_neg hne, memRead_vram hb, vramByte_oamWrite, memRead_vram hb]
  · rw [memRead_oam (by simpa using hc) (by simpa using hb), oamByte_oamWrite hrange, hindex, oamWrite_cfg,
      memRead_oam hc hb]
    exact if_congr ⟨fun h => BitVec.eq_of_toNat_eq (by omega), fun h => h ▸ rfl⟩ rfl rfl

/-- The response is read by no bus access. -/
theorem memRead_respond (s : State) (r : Response) (a : Addr) : memRead (s.respond r) a = memRead s a := rfl

/-- Settles O44: the write is `VramWrite` or `OamWrite`, after which the read is `MemRead`. -/
theorem readAfterWriteOnBus : Obligations.ReadAfterWriteOnBus := by
  intro s a v hc ha
  have hread {t : State} (hcfg : t.cfg = s.cfg) (b : Addr) :
      exec (rdRow s.cfg b) t = .next { t with resp := .rdata (memRead t b) } := hcfg ▸ exec_rdRow t b
  rcases ha with ha | ha
  · have hrow := wrRow_of_target_vram (busTarget_vram ha (c := s.cfg)) v
    refine ⟨(vramWrite s (addrInt a) v).respond (.lycIrq false), by rw [hrow, exec_wrVram]; rfl, fun b hb => ?_⟩
    rw [hread (by simp), memRead_respond, memRead_vramWrite hc.1 ha hb]
  · have hrow := wrRow_of_target_oam (busTarget_oam hc.1 ha) v
    refine ⟨(oamWrite s (oamOffset s.cfg a) v).respond (.lycIrq false), by rw [hrow, exec_wrOam]; rfl, fun b hb => ?_⟩
    rw [hread (by simp), memRead_respond, memRead_oamWrite hc.1 ha hb]

/-! ## An external writer -/

/-- A WR row of any address but LCDC's is a minor step. -/
theorem minorStep_wrRow {s t : State} {a : Addr} {v : Byte} (hne : a ≠ s.cfg.regAddr.lcdc)
    (h : exec (wrRow s.cfg a v) s = .next t) : MinorStep s t := by
  have hrow : wrRow s.cfg a v ≠ .modeDone ∧ wrRow s.cfg a v ≠ .reset ∧ ∀ u, wrRow s.cfg a v ≠ .wrLcdc u := by
    rcases busTarget_cases s.cfg a with ⟨ht, -⟩ | ⟨ht, -⟩ | ⟨r, ht, ha⟩ | ⟨ht, -⟩
    · rw [wrRow_of_target_vram ht]; exact ⟨nofun, nofun, nofun⟩
    · rw [wrRow_of_target_oam ht]; exact ⟨nofun, nofun, nofun⟩
    · rw [wrRow_of_target_reg ht]
      cases r with
      | lcdc => exact absurd ha.symm hne
      | stat | scy | scx | ly | lyc | bgp | obp0 | obp1 | wy | wx => exact ⟨nofun, nofun, nofun⟩
    · rw [wrRow_of_target_unmapped ht]; exact ⟨nofun, nofun, nofun⟩
  obtain ⟨hmode, hreset, hlcdc⟩ := hrow
  rcases exec_cases (wrRow s.cfg a v) s with hx | ⟨u, hx⟩ | hx | ⟨t', ht, hminor⟩
  · exact absurd hx hmode
  · exact absurd hx (hlcdc u)
  · exact absurd hx hreset
  · cases ht.symm.trans h
    exact hminor

/-- The WR row of LCDC's address is WR.LCDC. -/
theorem wrRow_lcdc {c : Config} (hc : c.decodeDisjoint) (v : Byte) : wrRow c c.regAddr.lcdc v = .wrLcdc v :=
  wrRow_of_target_reg (busTarget_reg hc .lcdc) v

/-- Settles O45: a WR row is a minor step or WR.LCDC, whose toggles force the values named. -/
theorem externalWriterLimits : Obligations.ExternalWriterLimits := by
  intro s t a v hc h
  by_cases ha : a = s.cfg.regAddr.lcdc
  · subst ha
    rw [wrRow_lcdc hc.1] at h
    rcases exec_wrLcdc_cases h with ⟨-, rfl⟩ | ⟨-, mode, spr, hforced, rfl⟩
    · refine ⟨fun _ => rfl, ⟨rfl, rfl⟩, absurd rfl, fun _ => ⟨.inl rfl, .inl rfl, .inl rfl, .inl rfl, ?_,
        fun _ => rfl, fun _ => rfl⟩⟩
      dsimp only
      split
      · exact .inl rfl
      · exact .inr rfl
    · refine ⟨fun _ => rfl, ⟨rfl, rfl⟩, absurd rfl, fun _ => ⟨.inr rfl, .inr ?_, .inr rfl, ?_, .inr rfl,
        fun _ => rfl, fun _ => rfl⟩⟩
      · exact hforced.imp (fun hoff => hoff.2.1) (fun hon => hon.2.1)
      · rcases hforced with ⟨-, -, rfl⟩ | ⟨-, -, rfl⟩
        · exact .inl rfl
        · exact .inr rfl
  · have hminor := minorStep_wrRow ha h
    exact ⟨fbRow_congr hminor.fb hminor.epoch, hminor.toSameInputs,
      fun _ => ⟨hminor.toSamePosition, sprites_congr hminor.spr hminor.cfg hminor.epoch⟩, fun heq => absurd heq ha⟩

end Sys2Proof.Machine
end

section
/-!
The pure functions and the views of VRAM (40_tile_codec.md R83, R84; 41_vram_views.md R98 to R102; 42_palette.md R114):
the plane bytes of a row of cells, the tile addresses, and the map pixel.
-/

namespace Sys2Proof.Machine

/-! ## The tile codec -/

/-- A bit of a disjunction built up along a list. -/
theorem getLsbD_foldl_or {α : Type} (f : α → Byte) (l : List α) (acc : Byte) (i : Nat) :
    (l.foldl (fun a x => a ||| f x) acc).getLsbD i = (acc.getLsbD i || l.any fun x => (f x).getLsbD i) := by
  induction l generalizing acc with
  | nil => simp
  | cons x l ih => rw [List.foldl_cons, ih, BitVec.getLsbD_or, List.any_cons, Bool.or_assoc]

/-- A single bit moved to position `k`. -/
theorem getLsbD_ofBool_shiftLeft (b : Bool) (k : Nat) {i : Nat} (hi : i < 8) :
    ((BitVec.ofBool b).setWidth 8 <<< k).getLsbD i = (decide (i = k) && b) := by
  rw [BitVec.getLsbD_shiftLeft, BitVec.getLsbD_setWidth, BitVec.getLsbD_ofBool]
  by_cases heq : i = k
  · simp [heq, heq ▸ hi]
  · by_cases hlt : i < k
    · simp [heq, hlt]
    · simp [heq, show i - k ≠ 0 by omega]

/-- R83 for one cell: column `c` of a plane byte is the plane's bit of the clamped cell. -/
theorem planeByte_getLsbD (row : Vector Nat 8) (plane : Nat) (c : Fin 8) :
    (planeByte row plane).getLsbD (7 - c.val) = (min row[c] 3).testBit plane := by
  have hcol (d : Fin 8) : 7 - c.val = 7 - d.val ↔ d = c := by omega
  rw [planeByte, getLsbD_foldl_or, Bool.eq_iff_iff]
  simp only [getLsbD_ofBool_shiftLeft _ _ (show 7 - c.val < 8 by omega), hcol, BitVec.ofNat_eq_ofNat,
    BitVec.getLsbD_zero, Bool.false_or, List.any_eq_true, List.mem_finRange, true_and, Bool.and_eq_true,
    decide_eq_true_eq, exists_eq_left]

/-- R83: bytes `2r` and `2r + 1` are the planes of row `r`. -/
theorem encodeTile_getElem (t : Grid) (r : Fin 8) :
    (encodeTile t)[2 * r.val] = planeByte t[r] 0 ∧ (encodeTile t)[2 * r.val + 1] = planeByte t[r] 1 := by
  simp [encodeTile, Nat.mul_add_div]

theorem toGrid_getElem (t : Tile) (r c : Fin 8) : t.toGrid[r][c] = (t[r][c]).toNat := by
  simp [Tile.toGrid]

/-- A byte is its eight columns. -/
theorem byte_ext_columns {a b : Byte} (h : ∀ c : Fin 8, a.getLsbD (7 - c.val) = b.getLsbD (7 - c.val)) : a = b := by
  refine BitVec.eq_of_getLsbD_eq fun i hi => ?_
  have hc := h ⟨7 - i, by omega⟩
  rwa [show 7 - (7 - i) = i by omega] at hc

/-- The clamp does not act on a 2-bit value, and its bits are the two planes. -/
theorem testBit_min_planes (l h : Bool) :
    (min (l.toNat + 2 * h.toNat) 3).testBit 0 = l ∧ (min (l.toNat + 2 * h.toNat) 3).testBit 1 = h := by
  revert l h; decide

theorem planes_of_min_three (n : Nat) : ((min n 3).testBit 0).toNat + 2 * ((min n 3).testBit 1).toNat = min n 3 := by
  have hle : min n 3 ≤ 3 := Nat.min_le_right n 3
  interval_cases min n 3 <;> rfl

/-- The planes of a decoded row are the two bytes it was decoded from. -/
theorem planeByte_decodeTile (b : Vector Byte 16) (r : Fin 8) :
    planeByte (decodeTile b).toGrid[r] 0 = b[2 * r.val] ∧ planeByte (decodeTile b).toGrid[r] 1 = b[2 * r.val + 1] := by
  refine ⟨byte_ext_columns fun c => ?_, byte_ext_columns fun c => ?_⟩ <;>
    rw [planeByte_getLsbD, toGrid_getElem, decodeTile_getElem, tileRowPixel_toNat]
  · exact (testBit_min_planes _ _).1
  · exact (testBit_min_planes _ _).2

/-- Settles O52: each plane byte holds one bit of every cell of its row. -/
theorem tileCodecRoundTrip : Obligations.TileCodecRoundTrip := by
  refine ⟨fun t r c => ?_, fun b => Vector.ext fun i hi => ?_⟩
  · obtain ⟨hlow, hhigh⟩ := encodeTile_getElem t r
    rw [decodeTile_getElem, tileRowPixel_toNat, hlow, hhigh, planeByte_getLsbD, planeByte_getLsbD, planes_of_min_three]
  · rcases Nat.even_or_odd' i with ⟨r, rfl | rfl⟩
    · exact (encodeTile_getElem _ ⟨r, by omega⟩).1.trans (planeByte_decodeTile b ⟨r, by omega⟩).1
    · exact (encodeTile_getElem _ ⟨r, by omega⟩).2.trans (planeByte_decodeTile b ⟨r, by omega⟩).2

/-! ## Tile addresses and the tile map -/

/-- Settles O53: the signed index is the byte as a two's complement number, and the bases keep every tile in VRAM. -/
theorem tileViewsAlias : Obligations.TileViewsAlias := by
  intro c idx hc
  obtain ⟨-, -, ⟨hunsigned, hsigned, -⟩, -⟩ := hc
  have hidx := idx.isLt
  have hint : idx.toInt = if idx.toNat < 128 then (idx.toNat : Int) else (idx.toNat : Int) - 256 := by
    rw [BitVec.toInt_eq_toNat_cond]
    split <;> split <;> omega
  refine ⟨fun signed => ?_, rfl, ?_, fun hbases => ⟨fun hhigh => ?_, fun hlow => ?_⟩⟩
  · cases signed <;> simp only [tileAddress, addrInt, hint, if_true, Bool.false_eq_true, if_false]
    · omega
    · split <;> omega
  · rw [← hint]
    rfl
  · simp only [tileAddress, addrInt, hint, if_true, Bool.false_eq_true, if_false]
    rw [if_neg (by omega)]
    omega
  · simp only [tileAddress, addrInt, hint, if_true, Bool.false_eq_true, if_false, if_pos hlow]
    omega

/-- Settles O54: a map of a covered configuration lies in VRAM. -/
theorem tileMapEntryReadsMapOrZero : Obligations.TileMapEntryReadsMapOrZero := by
  intro s x y useMapB hc
  obtain ⟨-, -, ⟨-, -, hmapA, hmapB⟩, -⟩ := hc
  refine ⟨fun hx0 hx hy0 hy => ?_, fun hout => if_neg hout⟩
  rw [tileMapEntry, if_pos ⟨hx0, hx, hy0, hy⟩, tileMapAddress]
  cases useMapB <;> simp only [addrInt, if_true, Bool.false_eq_true, if_false] <;> rw [vramRead_in (by omega)] <;>
    congr 1 <;> omega

/-- Settles O55: the two bytes of the row are bytes `2 * row` and `2 * row + 1` of the tile. -/
theorem mapPixelIsDecodedTilePixel : Obligations.MapPixelIsDecodedTilePixel := by
  intro s mapX mapY col row useMapB signed
  rw [getTileFromMap, decodeTile_getElem, mapPixel]
  simp only [Vector.getElem_ofFn, Nat.cast_add, Nat.cast_mul, Nat.cast_ofNat, Nat.cast_one, Int.add_assoc]

/-! ## Display colours -/

/-- Settles O57: the clamped index is in the table. -/
theorem displayColorClampsToDarkest : Obligations.DisplayColorClampsToDarkest := by
  intro c final
  refine ⟨fun hc => hc.2.2.2.2.2, ?_, ?_⟩ <;>
    exact (Vector.getElem?_eq_getElem (Nat.lt_succ_of_le (Nat.min_le_right final 3))).symm

end Sys2Proof.Machine
end

section
/-!
Sprites (45_sprites.md R145, R152 to R159): the records of a scan, what one sprite does to one pixel, and which
sprite of the priority order shows.
-/

namespace Sys2Proof.Machine

/-! ## The records of a scan -/

theorem sprites_oamScan (s : State) (k : Fin 40) : (sprites (oamScan s))[k] = scanSprite s k := by
  rw [sprites_scanned (oamScan_spr s), Fin.getElem_fin, Vector.getElem_ofFn]

/-- Byte `j` of OAM entry `k`. -/
theorem oamRead_entry (s : State) (k : Fin 40) {j : Nat} (hj : j < 4) :
    oamRead s (4 * k.val + j : Nat) = oamByte s (4 * k.val + j) := by
  rw [oamRead_in (by omega), Int.toNat_natCast]

/-- R145: the record of slot `k`, from the four bytes of its entry. -/
theorem scanSprite_eq (s : State) (k : Fin 40) :
    scanSprite s k = spriteOf s.cfg k (oamByte s (4 * k.val)) (oamByte s (4 * k.val + 1)) (oamByte s (4 * k.val + 2))
      (oamByte s (4 * k.val + 3)) := by
  have hy : oamRead s (4 * k.val : Nat) = oamByte s (4 * k.val) := oamRead_entry s k (j := 0) (by decide)
  rw [scanSprite, hy, oamRead_entry s k (by decide), oamRead_entry s k (by decide), oamRead_entry s k (by decide)]

/-- Settles O39: the record is `spriteOf` of the entry's bytes, and the examples are closed terms. -/
theorem oamScanRebuildsRecords : Obligations.OamScanRebuildsRecords := by
  refine ⟨fun s => ⟨rfl, fun k => ?_⟩, by decide, by decide⟩
  rw [sprites_oamScan, scanSprite_eq]
  exact ⟨rfl, rfl, rfl, rfl, rfl, rfl, rfl, rfl⟩

/-! ## One sprite on one pixel -/

theorem drawSprite_of_not_covered {s : State} {ly : Nat} {row : Row} {sp : Sprite} {sx : Fin 160}
    (h : ¬ (sp.x ≤ (sx.val : Int) ∧ (sx.val : Int) < sp.x + 8)) : (drawSprite s ly row sp)[sx] = row[sx] := by
  rw [Fin.getElem_fin, drawSprite_getElem s ly row sp sx.isLt, if_neg fun hc => h ⟨hc.1, by omega⟩]
  rfl

theorem drawSprite_of_covered {s : State} {ly : Nat} {row : Row} {sp : Sprite} {sx : Fin 160}
    (hlo : sp.x ≤ (sx.val : Int)) (hhi : (sx.val : Int) < sp.x + 8) :
    (drawSprite s ly row sp)[sx] = spritePixel s sp ly ((sx.val : Int) - sp.x).toNat row[sx] := by
  rw [Fin.getElem_fin, drawSprite_getElem s ly row sp sx.isLt, if_pos ⟨hlo, by omega⟩]
  rfl

/-- Raw colour 0 leaves the pixel (R155, R159). -/
theorem spritePixel_of_transparent {s : State} {sp : Sprite} {ly col : Nat} (h : spriteRaw s sp ly col = 0)
    (old : Shade) : spritePixel s sp ly col old = old := if_pos h

/-- Without the background-priority flag every other raw colour is drawn (R155). -/
theorem spritePixel_of_opaque {s : State} {sp : Sprite} {ly col : Nat} (h : spriteRaw s sp ly col ≠ 0)
    (hprio : sp.bgPrio = false) (old : Shade) :
    spritePixel s sp ly col old = shade (spriteRaw s sp ly col) (spritePalette s sp) := by
  rw [spritePixel, if_neg h, if_neg (by simp [hprio])]

/-- R155 with the raw colour as a number. -/
theorem spritePixel_eq (s : State) (sp : Sprite) (ly col : Nat) (old : Shade) :
    spritePixel s sp ly col old =
      (if (spriteRaw s sp ly col).toNat = 0 then old
       else if sp.bgPrio = true ∧ old ≠ s.cfg.lightest then old
       else ((if sp.pal then s.obp1 else s.obp0) >>> (2 * (spriteRaw s sp ly col).toNat)).setWidth 2) := by
  have hzero : spriteRaw s sp ly col = 0 ↔ (spriteRaw s sp ly col).toNat = 0 := by
    rw [← BitVec.toNat_inj]
    rfl
  simp only [spritePixel, hzero]
  rfl

/-- Settles O35: the values of R153 and R154 are those `spriteRaw` reads, and the pixel is `spritePixel`. -/
theorem spritePixelRule : Obligations.SpritePixelRule := by
  intro s ly row sp sx _
  refine ⟨drawSprite_of_not_covered, fun hlo hhi => ?_⟩
  refine ⟨spriteHeight s, spriteRow (spriteHeight s) sp ly, ((sx.val : Int) - sp.x).toNat, _,
    spriteTile (spriteHeight s) sp ly, spriteDataAddress s sp ly, _, rfl, rfl, Int.toNat_of_nonneg (by omega), rfl, rfl,
    ?_, rfl, ?_⟩
  · simp only [spriteDataAddress, spriteTileRow, not_lt]
    rfl
  · rw [drawSprite_of_covered hlo hhi, spritePixel_eq, spriteRaw, tileRowPixel_toNat]

/-- Settles O37: each of the eight columns keeps the pixel under it. -/
theorem transparentSpriteLeavesRow : Obligations.TransparentSpriteLeavesRow := by
  intro s ly row sp hraw
  refine Vector.ext fun x hx => ?_
  by_cases hc : sp.x ≤ (x : Int) ∧ (x : Int) < sp.x + 8
  · have hcol : spriteRaw s sp ly ((x : Int) - sp.x).toNat = 0 := hraw _ (by omega)
    exact (drawSprite_of_covered (sx := ⟨x, hx⟩) hc.1 hc.2).trans (spritePixel_of_transparent hcol _)
  · exact drawSprite_of_not_covered (sx := ⟨x, hx⟩) hc

/-! ## The layer -/

/-- R152: drawing in reverse order, the first of the priority order comes last. -/
theorem spriteLayer_eq_foldr (s : State) (ly : Nat) (row : Row) :
    spriteLayer s ly row = (priorityList s ly).foldr (fun sp r => drawSprite s ly r sp) row :=
  List.foldl_reverse

/-- Sprites that do not cover a column or are transparent there leave its pixel. -/
theorem foldr_drawSprite_of_transparent {s : State} {ly : Nat} {sps : List Sprite} {sx : Fin 160}
    (h : ∀ q ∈ sps, q.x ≤ (sx.val : Int) → (sx.val : Int) < q.x + 8 →
      spriteRaw s q ly ((sx.val : Int) - q.x).toNat = 0) (row : Row) :
    (sps.foldr (fun sp r => drawSprite s ly r sp) row)[sx] = row[sx] := by
  induction sps with
  | nil => rfl
  | cons q sps ih =>
    have hrest := ih fun p hp => h p (List.mem_cons_of_mem _ hp)
    rw [List.foldr_cons]
    by_cases hc : q.x ≤ (sx.val : Int) ∧ (sx.val : Int) < q.x + 8
    · rw [drawSprite_of_covered hc.1 hc.2, spritePixel_of_transparent (h q List.mem_cons_self hc.1 hc.2), hrest]
    · rw [drawSprite_of_not_covered hc, hrest]

/-- Settles O38: the sprite is drawn over those after it in the order, and those before it leave its pixel. -/
theorem highestPrioritySpriteShows : Obligations.HighestPrioritySpriteShows := by
  intro s ly row before after sp sx hlist hprio hlo hhi hraw hbefore
  rw [spriteLayer_eq_foldr, hlist, List.foldr_append, foldr_drawSprite_of_transparent hbefore, List.foldr_cons,
    drawSprite_of_covered hlo hhi, spritePixel_of_opaque hraw hprio]
  rfl

end Sys2Proof.Machine
end

section
/-!
The rendered line (47_timing_fsm_and_output.md R216, R217): the pixels of the row MODE_DONE stores, layer by layer, and
what rendering does not read.
-/

namespace Sys2Proof.Machine

/-! ## Pixels of the framebuffer -/

theorem pixelAt_eq_getElem {s : State} {x y : Nat} (hx : x < 160) (hy : y ≤ 143) : pixelAt s x y = (fbRow s y)[x] := by
  rw [pixelAt, if_pos hy, Vector.getElem?_eq_getElem hx, Option.getD_some]

/-- MODE_DONE in OAMScan stores the finished line as row LY, and counts it when the window is visible (R212, R133). -/
theorem exec_modeDone_renders {s : State} (hon : s.lcdOn = true) (hmode : s.mode = .oamScan) (hly : s.ly.toNat ≤ 143) :
    ∃ t, exec .modeDone s = .next t ∧ fbRow t s.ly.toNat = lineRow s s.ly.toNat ∧
      t.winLine = if windowVisible s s.ly.toNat then s.winLine + 1 else s.winLine :=
  ⟨_, execModeDone_of_oamScan_visible hon hmode hly, fbRow_setFbRow_same (s := s) (by omega) _, rfl⟩

/-! ## A line without sprites -/

/-- With no record covering the line the sprite layer draws nothing. -/
theorem lineRow_of_no_sprite {s : State} {ly : Nat} (h : ∀ k : Fin 40, ¬ (sprites s)[k].covers (spriteHeight s) ly) :
    lineRow s ly = underRow s ly := by
  have hcand : candidates s ly = [] := List.eq_nil_iff_forall_not_mem.mpr fun sp hsp => by
    obtain ⟨k, rfl⟩ := exists_slot_of_mem_candidates hsp
    exact h k (mem_candidates.mp hsp).2
  have hlayer : spriteLayer s ly (underRow s ly) = underRow s ly := by
    rw [spriteLayer, priorityList, hcand]
    rfl
  rw [lineRow, hlayer, ite_self]

theorem underRow_of_hidden {s : State} {ly : Nat} (h : windowVisible s ly = false) : underRow s ly = bgRow s ly := by
  simp only [underRow, h, Bool.false_eq_true, if_false]

theorem underRow_of_visible {s : State} {ly : Nat} (h : windowVisible s ly = true) :
    underRow s ly = windowRow s (bgRow s ly) := if_pos h

/-- R100, R101: the pixel of the whole decoded tile, by row and then by column. -/
theorem mapPixel_of_tile (s : State) (mapX mapY : Int) {col row : Nat} (hcol : col < 8) (hrow : row < 8)
    (useMapB signed : Bool) :
    ∃ (cells : Vector Shade 8) (raw : Shade), (getTileFromMap s mapX mapY useMapB signed)[row]? = some cells ∧
      cells[col]? = some raw ∧ mapPixel s mapX mapY col row useMapB signed = raw :=
  ⟨_, _, Vector.getElem?_eq_getElem hrow, Vector.getElem?_eq_getElem hcol,
    mapPixelIsDecodedTilePixel s mapX mapY ⟨col, hcol⟩ ⟨row, hrow⟩ useMapB signed⟩

/-- Settles O32: the line is the background's row, whose pixels are those of the decoded tile. -/
theorem backgroundPixelFollowsTileMap : Obligations.BackgroundPixelFollowsTileMap := by
  intro s hon hmode hly hwin hspr
  obtain ⟨t, ht, hrow, -⟩ := exec_modeDone_renders hon hmode hly
  have hhidden : windowVisible s s.ly.toNat = false :=
    Bool.eq_false_of_not_eq_true fun h => hwin (windowVisible_iff.mp h)
  rw [lineRow_of_no_sprite hspr, underRow_of_hidden hhidden] at hrow
  refine ⟨t, ht, fun sx hsx => ?_⟩
  have hpixel : pixelAt t sx s.ly.toNat =
      if bit s.lcdc s.cfg.lcdcBgEn then bgPixel s s.ly.toNat sx else s.cfg.lightest := by
    rw [pixelAt_eq_getElem hsx hly, hrow, bgRow_getElem s _ hsx]
    rfl
  refine ⟨fun hbg => by rw [hpixel, hbg]; rfl, fun hbg => ?_⟩
  obtain ⟨cells, raw, hcells, hraw, hmap⟩ := mapPixel_of_tile s
    (((s.scx.toNat + sx) % 256 / 8 : Nat) : Int) (((s.scy.toNat + s.ly.toNat) % 256 / 8 : Nat) : Int)
    (Nat.mod_lt ((s.scx.toNat + sx) % 256) (by decide)) (Nat.mod_lt ((s.scy.toNat + s.ly.toNat) % 256) (by decide))
    (bit s.lcdc s.cfg.lcdcBgMap) (!bit s.lcdc s.cfg.lcdcTileData)
  refine ⟨cells, raw, hcells, hraw, ?_⟩
  rw [hpixel, if_pos hbg, ← hmap]
  rfl

/-- R131: the columns the window covers, without the subtraction. -/
theorem windowStart_le_iff {s : State} {sx : Nat} : windowStart s ≤ (sx : Int) ↔ s.wx.toNat ≤ sx + 7 := by
  rw [windowStart]
  omega

/-- The window's column at a screen column (R132). -/
theorem sub_windowStart_toNat (s : State) (sx : Nat) : ((sx : Int) - windowStart s).toNat = sx + 7 - s.wx.toNat := by
  rw [windowStart]
  omega

/-- Settles O33: the covered columns take the window's pixels, and the others those of the background's row, which is
the whole line when WY keeps the window off. -/
theorem windowPixelFollowsLineCounter : Obligations.WindowPixelFollowsLineCounter := by
  intro s hon hmode hly hen hwy hspr
  obtain ⟨t, ht, hrow, hcount⟩ := exec_modeDone_renders hon hmode hly
  obtain ⟨u, hu, hrow', -⟩ := exec_modeDone_renders (s := { s with wy := 255 }) hon hmode hly
  have hvisible : windowVisible s s.ly.toNat = true := windowVisible_iff.mpr ⟨hen, hwy⟩
  have hhidden : windowVisible { s with wy := 255 } s.ly.toNat = false :=
    Bool.eq_false_of_not_eq_true fun h => by
      have hle : 255 ≤ s.ly.toNat := (windowVisible_iff.mp h).2
      omega
  rw [lineRow_of_no_sprite hspr, underRow_of_visible hvisible] at hrow
  rw [lineRow_of_no_sprite (s := { s with wy := 255 }) hspr, underRow_of_hidden hhidden] at hrow'
  refine ⟨t, u, ht, hu, hcount.trans (if_pos hvisible), fun sx hsx => ?_⟩
  rw [pixelAt_eq_getElem hsx hly, pixelAt_eq_getElem hsx hly, hrow, hrow', windowRow_getElem s _ hsx]
  refine ⟨fun hleft => if_neg fun h => absurd (windowStart_le_iff.mp h) (by omega), fun hright => ?_⟩
  obtain ⟨cells, raw, hcells, hraw, hmap⟩ := mapPixel_of_tile s
    (((sx + 7 - s.wx.toNat) / 8 : Nat) : Int) ((s.winLine.toNat / 8 : Nat) : Int)
    (Nat.mod_lt (sx + 7 - s.wx.toNat) (by decide)) (Nat.mod_lt s.winLine.toNat (by decide))
    (bit s.lcdc s.cfg.lcdcWinMap) (!bit s.lcdc s.cfg.lcdcTileData)
  refine ⟨cells, raw, hcells, hraw, ?_⟩
  rw [if_pos (windowStart_le_iff.mpr hright), ← hmap, windowPixel, sub_windowStart_toNat]
  rfl

/-! ## Sprites over the line -/

/-- Settles O34: without sprites the line is the row under them, and with them the layer drawn over that row. -/
theorem spritesDrawnLastInReversePriority : Obligations.SpritesDrawnLastInReversePriority := by
  intro s none40 hon hmode hly hnone
  obtain ⟨t, ht, hrow, -⟩ := exec_modeDone_renders hon hmode hly
  obtain ⟨u, hu, hrow', -⟩ := exec_modeDone_renders (s := { s with spr := some none40 }) hon hmode hly
  have hunder : fbRow u s.ly.toNat = underRow s s.ly.toNat :=
    hrow'.trans (lineRow_of_no_sprite (s := { s with spr := some none40 }) hnone)
  exact ⟨t, u, ht, hu, by rw [hrow, hunder]; rfl⟩

/-! ## OAM -/

/-- Rendering reads the latched records, never OAM (R52). -/
theorem renderLine_oam (s : State) (m : Memory) (ly : Nat) :
    renderLine { s with oam := m } ly = { renderLine s ly with oam := m } := by
  by_cases hly : ly < 144
  · rw [renderLine_eq hly, renderLine_eq hly]
    rfl
  · rw [renderLine_out hly, renderLine_out hly]
    rfl

/-- Settles O46: with the LCD off nothing is done, and otherwise the line is rendered, which does not read OAM. -/
theorem renderingIgnoresOamContents : Obligations.RenderingIgnoresOamContents := by
  intro s m hmode
  cases hon : s.lcdOn with
  | false => exact ⟨_, execModeDone_of_off hon, execModeDone_of_off (s := { s with oam := m }) hon⟩
  | true =>
    refine ⟨_, execModeDone_of_oamScan hon hmode, ?_⟩
    rw [exec_modeDone, execModeDone_of_oamScan (s := { s with oam := m }) hon hmode]
    exact congrArg (fun t => Host.Outcome.next (State.respond t (.lycIrq false)))
      (renderLine_oam { s with mode := .drawing } m s.ly.toNat)

end Sys2Proof.Machine
end

section
/-!
Pixel output and reset (47_timing_fsm_and_output.md R217 to R219; 70_reset_and_hazards.md R260, R262): what GETPIXEL and
SNAPSHOT answer, what RESET leaves, and why the latched records cannot be seen while the LCD is off.
-/

namespace Sys2Proof.Machine

/-! ## GETPIXEL and SNAPSHOT -/

/-- GETPIXEL, said once (R217). -/
theorem exec_getPixel (x y : Byte) (s : State) :
    exec (.getPixel x y) s = .next { s with resp := .px (pixelAt s x.toNat y.toNat) } := rfl

/-- SNAPSHOT, said once (R218). -/
theorem exec_snapshot (s : State) : exec .snapshot s = .next { s with resp := .frame (frameOf s) } := rfl

theorem frameOf_getElem (s : State) (y : Fin 144) : (frameOf s)[y] = fbRow s y.val := by
  rw [frameOf, Fin.getElem_fin, Vector.getElem_ofFn]

/-- Off the screen a pixel is 0 (R217, D20). -/
theorem pixelAt_off_screen {s : State} {x y : Nat} (h : ¬ (x ≤ 159 ∧ y ≤ 143)) : pixelAt s x y = 0 := by
  rw [pixelAt]
  split
  · rw [Vector.getElem?_eq_none (by omega), Option.getD_none]
  · rfl

/-- Settles O48: `pixelAt` on the screen and off it. -/
theorem getPixelReadsFramebuffer : Obligations.GetPixelReadsFramebuffer := by
  intro s x y
  refine ⟨fun hx hy => ⟨_, Vector.getElem?_eq_getElem (by omega), ?_⟩, fun hoff => ?_⟩
  · rw [exec_getPixel, pixelAt_eq_getElem (by omega) hy]
  · rw [exec_getPixel, pixelAt_off_screen hoff]

/-- Settles O49: an entry of the snapshot is an entry of the framebuffer's row, as GETPIXEL reads it. -/
theorem snapshotCopiesFramebuffer : Obligations.SnapshotCopiesFramebuffer := by
  intro s
  refine ⟨frameOf s, exec_snapshot s, frameOf_getElem s, fun x y => ?_⟩
  have hx : (BitVec.ofNat 8 x.val).toNat = x.val := by rw [BitVec.toNat_ofNat, Nat.mod_eq_of_lt (by omega)]
  have hy : (BitVec.ofNat 8 y.val).toNat = y.val := by rw [BitVec.toNat_ofNat, Nat.mod_eq_of_lt (by omega)]
  rw [exec_getPixel, hx, hy, pixelAt_eq_getElem x.isLt (by omega), frameOf_getElem]
  rfl

/-! ## RESET -/

/-- Settles O50: RESET stores the zero registers, and nothing is listed, scanned or rendered in the new epoch. -/
theorem resetForcesStartState : Obligations.ResetForcesStartState := by
  intro s hzero
  have hreg (f : ResetState → Byte) : f s.cfg.resetState = f .zero := congrArg f hzero
  have hlyc : s.cfg.resetState.lyc = 0 := hreg (·.lyc)
  have hie : s.cfg.resetState.ie = 0 := hreg (·.ie)
  refine ⟨_, exec_reset s, hreg (·.lcdc), hreg (·.scy), hreg (·.scx), hlyc, hreg (·.wy), hreg (·.wx), hreg (·.bgp),
    hreg (·.obp0), hreg (·.obp1), hie, rfl, ?_, rfl, rfl, ?_, rfl, ⟨rfl, rfl⟩, fun _ => rfl, fun _ => rfl,
    fun y x => ?_, fun k => ?_⟩
  · simp [hlyc]
  · simp [statRead, hlyc, hie, Mode.code]
  · simp [fbRow, freeRow]
  · simp [sprites]

/-! ## The latched records while the LCD is off -/

/-- With the LCD off an operation forgets the latched records, or carries them along unread (R262). -/
theorem exec_records_of_off (i : Instr) {s : State} (hoff : s.lcdOn = false) :
    (∀ v, exec i { s with spr := v } = exec i s) ∨
    ∃ t : State, t.lcdOn = false ∧ ∀ v, exec i { s with spr := v } = .next { t with spr := v } := by
  have carry {t : State} (_ : exec i s = .next t) (htoff : t.lcdOn = false)
      (ht : ∀ v, exec i { s with spr := v } = .next { t with spr := v }) :
      (∀ v, exec i { s with spr := v } = exec i s) ∨
      ∃ t : State, t.lcdOn = false ∧ ∀ v, exec i { s with spr := v } = .next { t with spr := v } :=
    .inr ⟨t, htoff, ht⟩
  cases i with
  | modeDone =>
    exact .inr ⟨s.respond (.lycIrq false), hoff, fun v => execModeDone_of_off (s := { s with spr := v }) hoff⟩
  | reset => exact .inl fun _ => rfl
  | wrLcdc b =>
    cases hb : bit b s.cfg.lcdcLcdEn with
    | true =>
      have hon (s : State) := (lcdcWriteEffects b s).2.2
      exact .inl fun v => (hon { s with spr := v } hoff hb).trans (hon s hoff hb).symm
    | false =>
      exact .inr ⟨(storeLcdc b s).respond (.lycIrq false), hb,
        fun v => (lcdcWriteEffects b { s with spr := v }).1 (hb.trans hoff.symm)⟩
  | wrVram a b =>
    refine carry (exec_wrVram a b s) ((lcdOn_congr (by simp) (by simp)).trans hoff) fun v => ?_
    rw [exec_wrVram, vramWrite, vramWrite]
    split <;> rfl
  | wrOam a b =>
    refine carry (exec_wrOam a b s) ((lcdOn_congr (by simp) (by simp)).trans hoff) fun v => ?_
    rw [exec_wrOam, oamWrite, oamWrite]
    split <;> rfl
  | rdVram | rdOam | rdUnmapped | rdLcdc | rdStat | rdScy | rdScx | rdLy | rdLyc | rdBgp | rdObp0 | rdObp1 | rdWy
  | rdWx | getPixel | snapshot | wrStat | wrScy | wrScx | wrLy | wrLyc | wrBgp | wrObp0 | wrObp1 | wrWy | wrWx
  | wrUnmapped => exact carry rfl hoff fun _ => rfl

/-- Settles O47: after each operation the two machines are equal, or the LCD is still off in both. -/
theorem latchedRecordsHiddenWhileLcdOff : Obligations.LatchedRecordsHiddenWhileLcdOff := by
  intro s v w ops hoff
  induction ops generalizing s with
  | nil => rfl
  | cons i ops ih =>
    rcases exec_records_of_off i hoff with hforget | ⟨t, htoff, hcarry⟩
    · simp only [responses, hforget]
    · simp only [responses, hcarry, ih t htoff]

end Sys2Proof.Machine
end

section
/-!
LINE and FRAME (30_encoding.md R67; 60_exceptions.md R243): runs with their answers, one line, the visible lines by
induction, V-Blank by induction, and the whole frame from them.
-/

namespace Sys2Proof.Machine

/-! ## Runs -/

/-- The operations lead from `s` to `t` with these answers. -/
def Runs (ops : List Instr) (s t : State) (answers : List Response) : Prop :=
  execList ops s = .next t ∧ responses ops s = answers

theorem Runs.nil (s : State) : Runs [] s s [] := ⟨rfl, rfl⟩

theorem Runs.cons {i : Instr} {ops : List Instr} {s u t : State} {answers : List Response} (h : exec i s = .next u)
    (hrest : Runs ops u t answers) : Runs (i :: ops) s t (u.resp :: answers) := by
  obtain ⟨hrun, hans⟩ := hrest
  exact ⟨by simp only [execList, h, hrun], by simp only [responses, h, hans]⟩

theorem Runs.append {ops ops' : List Instr} {s u t : State} {answers answers' : List Response}
    (h : Runs ops s u answers) (h' : Runs ops' u t answers') : Runs (ops ++ ops') s t (answers ++ answers') := by
  induction ops generalizing s answers with
  | nil =>
    obtain ⟨hrun, rfl⟩ := h
    cases hrun
    exact h'
  | cons i ops ih =>
    obtain ⟨v, hv, -⟩ := everyOperationCompletes i s
    obtain ⟨hrun, rfl⟩ := h
    simp only [execList, hv] at hrun
    simp only [responses, hv]
    exact (ih ⟨hrun, rfl⟩).cons hv

/-- The records later in a frame that started in `s`: those of `s`, or those of a scan of its OAM. -/
def RecordsFrom (s t : State) : Prop := t.spr = s.spr ∨ t.spr = some (Vector.ofFn (scanSprite s))

theorem RecordsFrom.trans {s t u : State} (hk : KeepsSources s t) (h : RecordsFrom s t) (h' : RecordsFrom t u) :
    RecordsFrom s u := by
  rcases h' with h' | h'
  · exact h.imp h'.trans h'.trans
  · exact .inr (scanSprite_congr hk.oam hk.epoch hk.cfg ▸ h')

/-- A comparison of LYC with the next line, as numbers. -/
theorem lyc_beq_succ {v b : Byte} {n : Nat} (hb : b.toNat = n) (hn : n < 255) :
    (v == b + 1) = decide (v.toNat = n + 1) := by
  have hsucc : (b + 1).toNat = n + 1 := by rw [byte_succ_toNat (by omega), hb]
  rw [Bool.eq_iff_iff, beq_iff_eq, decide_eq_true_eq, ← BitVec.toNat_inj, hsucc]

/-! ## One line -/

/-- What LINE does to a visible line (R67): its row is stored, and the next line starts. -/
structure LineDone (s t : State) : Prop extends KeepsSources s t where
  ly : t.ly = s.ly + 1
  mode : t.mode = if s.ly = 143 then .vblank else .oamScan
  fb : t.fb = s.fb.setIfInBounds s.ly.toNat (some (lineRow s s.ly.toNat))
  spr : RecordsFrom s t

/-- The MODE_DONE that ends a line drawn from `s`. -/
theorem lineDone_of_hblank {s w : State} (hon : w.lcdOn = true) (hmode : w.mode = .hblank) (hly : s.ly.toNat ≤ 143)
    (hwly : w.ly = s.ly) (hk : KeepsSources s w) (hspr : w.spr = s.spr)
    (hfb : w.fb = s.fb.setIfInBounds s.ly.toNat (some (lineRow s s.ly.toNat))) :
    ∃ t, exec .modeDone w = .next t ∧ t.resp = .lycIrq (s.lyc == s.ly + 1 && bit s.ie s.cfg.lycIeBit) ∧
      LineDone s t := by
  obtain ⟨t, ht, hstep⟩ := exec_modeDone_next w
  have hkt := hk.trans hstep.keepsSources
  have hresp : setLyFires w (w.ly + 1) = (s.lyc == s.ly + 1 && bit s.ie s.cfg.lycIeBit) := by
    rw [setLyFires_eq, hk.lyc, hwly, hk.ie, hk.cfg]
  refine ⟨t, ht, ?_⟩
  cases hstep with
  | nextLine _ _ hlt =>
    refine ⟨congrArg Response.lycIrq hresp, hkt, by simp [hwly], ?_, by simp [hfb], ?_⟩
    · have hne : s.ly ≠ 143 := fun h => by simp [hwly, h] at hlt
      rw [if_neg hne, respond_mode, enterOamScan_mode]
    · have hrec : RecordsFrom w ((enterOamScan (setLy w (w.ly + 1))).respond (.lycIrq (setLyFires w (w.ly + 1)))) :=
        (enterOamScan_spr_cases (setLy w (w.ly + 1))).symm
      exact RecordsFrom.trans hk (.inl hspr) hrec
  | enterVBlank _ _ hge =>
    refine ⟨congrArg Response.lycIrq hresp, hkt, by simp [hwly], ?_, hfb, .inl hspr⟩
    have heq : s.ly = 143 := BitVec.eq_of_toNat_eq (by rw [hwly] at hge; exact Nat.le_antisymm hly hge)
    rw [if_pos heq]
    rfl
  | off hoff => exact absurd (hon.symm.trans hoff) nofun
  | render _ hother | leaveDrawing _ hother | nextVBlankLine _ hother | wrap _ hother =>
    exact absurd (hmode.symm.trans hother) nofun

/-- LINE on a visible line: two answers 0, and the comparison with the next line (R67, R214). -/
theorem runs_line {s : State} (hon : s.lcdOn = true) (hmode : s.mode = .oamScan) (hly : s.ly.toNat ≤ 143) :
    ∃ t, Runs (List.replicate 3 .modeDone) s t
        [.lycIrq false, .lycIrq false, .lycIrq (s.lyc == s.ly + 1 && bit s.ie s.cfg.lycIeBit)] ∧
      LineDone s t := by
  obtain ⟨u, hu, hufb, hur, huk, humode, huly, huspr⟩ : ∃ u, exec .modeDone s = .next u ∧
      u.fb = s.fb.setIfInBounds s.ly.toNat (some (lineRow s s.ly.toNat)) ∧ u.resp = .lycIrq false ∧
      KeepsSources s u ∧ u.mode = .drawing ∧ u.ly = s.ly ∧ u.spr = s.spr :=
    ⟨_, execModeDone_of_oamScan_visible hon hmode hly, rfl, rfl, keepsSources_of_position s .., rfl, rfl, rfl⟩
  have huon := (lcdOn_congr huk.lcdc huk.cfg).trans hon
  have hw : exec .modeDone u = _ := execModeDone_of_drawing huon humode
  obtain ⟨t, ht, htr, hdone⟩ := lineDone_of_hblank (s := s) (w := { u with mode := .hblank, resp := .lycIrq false })
    huon rfl hly huly (huk.trans (keepsSources_of_position u ..)) huspr hufb
  have hruns := (((Runs.nil t).cons ht).cons hw).cons hu
  rw [hur, htr] at hruns
  exact ⟨t, hruns, hdone⟩

/-- Settles O29: LINE ends as `LineDone` says. -/
theorem lineAdvancesOneScanline : Obligations.LineAdvancesOneScanline := by
  intro s hon hmode hly
  obtain ⟨t, ⟨hrun, hans⟩, hdone⟩ := runs_line hon hmode hly
  exact ⟨t, hrun, hdone.ly, hdone.mode, hdone.toSameRegisters, vramByte_congr hdone.vram hdone.epoch,
    oamByte_congr hdone.oam hdone.epoch, hans⟩

/-! ## The visible lines of a frame -/

/-- The answer of the MODE_DONE that makes LY equal to `line` (R195, R243). -/
def lineAnswer (s : State) (line : Nat) : Response :=
  .lycIrq (decide (s.lyc.toNat = line) && bit s.ie s.cfg.lycIeBit)

/-- The answers of the first `n` LINEs of a frame. -/
def lineAnswers (s : State) (n : Nat) : List Response :=
  (List.range n).flatMap fun y => [.lycIrq false, .lycIrq false, lineAnswer s (y + 1)]

theorem lineAnswers_succ (s : State) (n : Nat) :
    lineAnswers s (n + 1) = lineAnswers s n ++ [.lycIrq false, .lycIrq false, lineAnswer s (n + 1)] := by
  simp [lineAnswers, List.range_succ]

/-- Every row above line `n` holds a finished line, drawn from the sources of `s`. -/
def RowsRendered (s t : State) (n : Nat) : Prop :=
  ∀ y < n, ∃ u, KeepsSources s u ∧ RecordsFrom s u ∧ t.fb[y]? = some (some (lineRow u y))

/-- The frame that started in `s` has done `n` visible lines. -/
structure LinesDone (s : State) (n : Nat) (t : State) : Prop extends KeepsSources s t where
  ly : t.ly.toNat = n
  mode : t.mode = if n = 144 then .vblank else .oamScan
  spr : RecordsFrom s t
  rows : RowsRendered s t n

/-- The start of a frame is no line done. -/
theorem linesDone_zero {s : State} (hmode : s.mode = .oamScan) (hly : s.ly = 0) : LinesDone s 0 s where
  toKeepsSources := .refl s
  ly := by simp [hly]
  mode := hmode
  spr := .inl rfl
  rows := nofun

/-- One more LINE, from a state with `n` lines done. -/
theorem linesDone_succ {s t u : State} {n : Nat} (hn : n < 144) (h : LinesDone s n t) (hline : LineDone t u) :
    LinesDone s (n + 1) u where
  toKeepsSources := h.toKeepsSources.trans hline.toKeepsSources
  ly := by rw [hline.ly, byte_succ_toNat (by rw [h.ly]; omega), h.ly]
  mode := by
    have h143 : t.ly = 143 ↔ n + 1 = 144 := by
      rw [← BitVec.toNat_inj, h.ly]
      exact Nat.succ_inj.symm
    rw [hline.mode]
    simp only [h143]
  spr := h.spr.trans h.toKeepsSources hline.spr
  rows := by
    intro y hy
    rw [hline.fb, h.ly]
    rcases Nat.lt_succ_iff_lt_or_eq.mp hy with hlt | rfl
    · rw [Vector.getElem?_setIfInBounds_ne (Nat.ne_of_gt hlt)]
      exact h.rows y hlt
    · exact ⟨t, h.toKeepsSources, h.spr, Vector.getElem?_setIfInBounds_self_of_lt hn⟩

/-- The visible lines, by induction on their number. -/
theorem runs_lines {s : State} (hon : s.lcdOn = true) (hmode : s.mode = .oamScan) (hly : s.ly = 0) {n : Nat}
    (hn : n ≤ 144) :
    ∃ t, Runs (List.replicate n (List.replicate 3 Instr.modeDone)).flatten s t (lineAnswers s n) ∧ LinesDone s n t := by
  induction n with
  | zero => exact ⟨s, .nil s, linesDone_zero hmode hly⟩
  | succ n ih =>
    obtain ⟨t, hruns, hdone⟩ := ih (by omega)
    have hton := (lcdOn_congr hdone.lcdc hdone.cfg).trans hon
    have htmode : t.mode = .oamScan := hdone.mode.trans (if_neg (by omega))
    obtain ⟨u, hline, hudone⟩ := runs_line hton htmode (hdone.ly ▸ by omega)
    have hanswer : Response.lycIrq (t.lyc == t.ly + 1 && bit t.ie t.cfg.lycIeBit) = lineAnswer s (n + 1) := by
      rw [lyc_beq_succ hdone.ly (by omega), hdone.lyc, hdone.ie, hdone.cfg]
      rfl
    rw [hanswer] at hline
    refine ⟨u, ?_, linesDone_succ (by omega) hdone hudone⟩
    rw [List.replicate_succ', List.flatten_append, List.flatten_singleton, lineAnswers_succ]
    exact hruns.append hline

/-! ## V-Blank -/

/-- `j` lines into the V-Blank that began in `s`. -/
structure VBlankAt (s : State) (j : Nat) (t : State) : Prop extends KeepsSources s t where
  ly : t.ly.toNat = 144 + j
  mode : t.mode = .vblank
  fb : t.fb = s.fb

/-- The lines of V-Blank after the first, by induction on their number. -/
theorem runs_vblank {s : State} (hon : s.lcdOn = true) (hmode : s.mode = .vblank) (hly : s.ly.toNat = 144) {j : Nat}
    (hj : j ≤ 9) :
    ∃ t, Runs (List.replicate j .modeDone) s t ((List.range j).map fun i => lineAnswer s (145 + i)) ∧
      VBlankAt s j t := by
  induction j with
  | zero => exact ⟨s, .nil s, .refl s, hly, hmode, rfl⟩
  | succ j ih =>
    obtain ⟨t, hruns, hat⟩ := ih (by omega)
    have hton := (lcdOn_congr hat.lcdc hat.cfg).trans hon
    have htly := hat.ly
    have hstep : exec .modeDone t = _ := execModeDone_of_vblank_next hton hat.mode (by omega)
    have hanswer : Response.lycIrq (setLyFires t (t.ly + 1)) = lineAnswer s (145 + j) := by
      rw [setLyFires_eq, lyc_beq_succ htly (by omega), hat.lyc, hat.ie, hat.cfg, Nat.add_right_comm]
      rfl
    refine ⟨(setLy t (t.ly + 1)).respond (.lycIrq (setLyFires t (t.ly + 1))), ?_,
      hat.toKeepsSources.trans (keepsSources_of_position t ..), ?_, hat.mode, hat.fb⟩
    · rw [List.replicate_succ', List.range_succ, List.map_append, List.map_singleton, ← hanswer]
      exact hruns.append ((Runs.nil _).cons hstep)
    · rw [respond_ly, setLy_ly, byte_succ_toNat (by omega), htly, Nat.add_assoc]

/-! ## The frame -/

/-- The answers of FRAME (R67, R243). -/
def frameAnswers (s : State) : List Response :=
  lineAnswers s 144 ++ (((List.range 9).map fun i => lineAnswer s (145 + i)) ++ [lineAnswer s 0])

/-- What FRAME leaves (R67, R210). -/
structure FrameDone (s t : State) : Prop extends KeepsSources s t where
  mode : t.mode = .oamScan
  ly : t.ly = 0
  winLine : t.winLine = 0
  rows : RowsRendered s t 144

/-- FRAME: 144 lines, nine lines of V-Blank and the wrap. -/
theorem runs_frame {s : State} (hon : s.lcdOn = true) (hmode : s.mode = .oamScan) (hly : s.ly = 0) :
    ∃ t, Runs (expand s.cfg .frame) s t (frameAnswers s) ∧ FrameDone s t := by
  obtain ⟨t, hlines, hdone⟩ := runs_lines hon hmode hly (Nat.le_refl 144)
  have hton := (lcdOn_congr hdone.lcdc hdone.cfg).trans hon
  obtain ⟨u, hvblank, hat⟩ := runs_vblank hton (hdone.mode.trans (if_pos rfl)) hdone.ly (Nat.le_refl 9)
  have huon := (lcdOn_congr hat.lcdc hat.cfg).trans hton
  have hwrap : exec .modeDone u = _ := execModeDone_of_vblank_wrap huon hat.mode hat.ly.ge
  have hk := hdone.toKeepsSources.trans hat.toKeepsSources
  have hanswer (line : Nat) : lineAnswer t line = lineAnswer s line := by
    rw [lineAnswer, hdone.lyc, hdone.ie, hdone.cfg, lineAnswer]
  have hlast : Response.lycIrq (setLyFires u 0) = lineAnswer s 0 := by
    have hzero : (s.lyc == 0) = decide (s.lyc.toNat = 0) := by
      rw [Bool.eq_iff_iff, beq_iff_eq, decide_eq_true_eq, ← BitVec.toNat_inj]
      rfl
    rw [setLyFires_eq, hk.lyc, hk.ie, hk.cfg, hzero, lineAnswer]
  simp only [hanswer] at hvblank
  refine ⟨(lcdOnState u).respond (.lycIrq (setLyFires u 0)), ?_, hk.trans ?_, ?_, ?_, ?_, fun y hy => ?_⟩
  · rw [frameAnswers, ← hlast]
    exact hlines.append (hvblank.append ((Runs.nil _).cons hwrap))
  · rw [lcdOnState_eq]
    exact keepsSources_of_position u ..
  · simp
  · simp
  · simp
  · rw [respond_fb, lcdOnState_fb, hat.fb]
    exact hdone.rows y hy

theorem length_lineAnswers (s : State) (n : Nat) : (lineAnswers s n).length = 3 * n := by
  simp [lineAnswers, Nat.mul_comm]

/-- Settles O30: FRAME leaves what `FrameDone` says, with its 442 answers. -/
theorem frameRendersAllRowsAndReturns : Obligations.FrameRendersAllRowsAndReturns := by
  intro s hon hmode hly
  obtain ⟨t, ⟨hrun, hans⟩, hdone⟩ := runs_frame hon hmode hly
  refine ⟨t, hrun, hdone.mode, hdone.ly, hdone.winLine, fun y => ?_, hdone.toSameRegisters,
    vramByte_congr hdone.vram hdone.epoch, oamByte_congr hdone.oam hdone.epoch, hdone.toSameInputs, ?_⟩
  · obtain ⟨u, -, -, hrow⟩ := hdone.rows y y.isLt
    rw [Vector.getElem?_eq_getElem y.isLt] at hrow
    exact fun hnone => absurd (hrow.symm.trans (congrArg some hnone)) nofun
  · rw [hans, frameAnswers, List.length_append, length_lineAnswers]
    rfl

/-- The answers of the visible lines by index: only the third of a line can be 1. -/
theorem lineAnswers_getElem? (s : State) {n k : Nat} (hk : k < 3 * n) :
    (lineAnswers s n)[k]? =
      some (.lycIrq (decide (k + 1 = 3 * s.lyc.toNat) && bit s.ie s.cfg.lycIeBit)) := by
  induction n with
  | zero => omega
  | succ n ih =>
    rw [lineAnswers_succ]
    rcases Nat.lt_or_ge k (3 * n) with hlt | hge
    · rw [List.getElem?_append_left (by rwa [length_lineAnswers]), ih hlt]
    · rw [List.getElem?_append_right (by rwa [length_lineAnswers]), length_lineAnswers]
      obtain rfl | rfl | rfl : k = 3 * n ∨ k = 3 * n + 1 ∨ k = 3 * n + 2 := by omega
      · simp [show ¬ 3 * n + 1 = 3 * s.lyc.toNat by omega]
      · simp [show ¬ 3 * n + 1 + 1 = 3 * s.lyc.toNat by omega]
      · have hiff : 3 * n + 2 + 1 = 3 * s.lyc.toNat ↔ s.lyc.toNat = n + 1 := by omega
        simp [lineAnswer, hiff]

theorem lycIrq_decide_congr {p q : Prop} [Decidable p] [Decidable q] (h : p ↔ q) :
    some (Response.lycIrq (decide p)) = some (.lycIrq (decide q)) := by
  rw [decide_eq_decide.mpr h]

/-- Settles O31: each LY of a frame is assigned by one MODE_DONE, whose index the list of answers gives. -/
theorem lycSignalOncePerFrame : Obligations.LycSignalOncePerFrame := by
  intro s hon hmode hly hie k hk
  obtain ⟨t, ⟨-, hans⟩, -⟩ := runs_frame hon hmode hly
  have hzero : s.lyc = 0 ↔ s.lyc.toNat = 0 := by rw [← BitVec.toNat_inj]; rfl
  have hanswer (line : Nat) : lineAnswer s line = .lycIrq (decide (s.lyc.toNat = line)) := by
    rw [lineAnswer, hie, Bool.and_true]
  rw [hans, frameAnswers]
  rcases Nat.lt_or_ge k 432 with hlines | hvblank
  · rw [List.getElem?_append_left (by rwa [length_lineAnswers]), lineAnswers_getElem? s hlines, hie, Bool.and_true]
    exact lycIrq_decide_congr (by rw [hzero]; omega)
  · rw [List.getElem?_append_right (by rwa [length_lineAnswers]), length_lineAnswers]
    rcases Nat.lt_or_ge k 441 with hlt | hge
    · rw [List.getElem?_append_left (by simp; omega), List.getElem?_map, List.getElem?_range (by omega),
        Option.map_some, hanswer]
      exact lycIrq_decide_congr (by rw [hzero]; omega)
    · obtain rfl : k = 441 := by omega
      rw [List.getElem?_append_right (by simp), hanswer]
      exact lycIrq_decide_congr (by rw [hzero]; omega)

end Sys2Proof.Machine
end

section
/-!
A uniform screen (95_test_vectors.md T9): a map of one uniform tile gives every pixel of a line one shade, and a frame
draws every line from the sources it started with.
-/

namespace Sys2Proof.Machine

/-- Every entry of the background's map is tile `idx`, all of whose pixels are `raw` (R99, R81). -/
structure UniformMap (s : State) (idx : Byte) (raw : Shade) : Prop where
  entries : ∀ x y : Nat, x < 32 → y < 32 → tileMapEntry s x y (bit s.lcdc s.cfg.lcdcBgMap) = idx
  pixels : ∀ r c : Fin 8, (decodeTile (Vector.ofFn fun i =>
    vramRead s (tileAddress s.cfg idx (!bit s.lcdc s.cfg.lcdcTileData) + i.val)))[r][c] = raw

/-- A uniform map reads only the sources. -/
theorem UniformMap.of_keepsSources {s u : State} {idx : Byte} {raw : Shade} (h : UniformMap s idx raw)
    (hk : KeepsSources s u) : UniformMap u idx raw := by
  have hread : vramRead u = vramRead s := funext (vramRead_congr hk.vram hk.epoch)
  refine ⟨fun x y hx hy => ?_, fun r c => ?_⟩
  · rw [hk.lcdc, hk.cfg, ← h.entries x y hx hy]
    simp only [tileMapEntry, hread, hk.cfg]
  · rw [hk.lcdc, hk.cfg, hread]
    exact h.pixels r c

/-- Whatever the scroll registers hold, a background pixel of a uniform map is the palette's shade (R120, R122). -/
theorem UniformMap.bgPixel_eq {s : State} {idx : Byte} {raw : Shade} (h : UniformMap s idx raw) (ly sx : Nat) :
    bgPixel s ly sx = shade raw s.bgp := by
  have hpos (n : Nat) : n % 256 / 8 < 32 := by omega
  have hsub (n : Nat) : n % 8 < 8 := Nat.mod_lt n (by decide)
  have hmap := (mapPixelIsDecodedTilePixel s ((s.scx.toNat + sx) % 256 / 8 : Nat) ((s.scy.toNat + ly) % 256 / 8 : Nat)
    ⟨_, hsub ((s.scx.toNat + sx) % 256)⟩ ⟨_, hsub ((s.scy.toNat + ly) % 256)⟩ (bit s.lcdc s.cfg.lcdcBgMap)
    (!bit s.lcdc s.cfg.lcdcTileData))
  rw [getTileFromMap, mapTileAddress, h.entries _ _ (hpos _) (hpos _), h.pixels] at hmap
  exact congrArg (shade · s.bgp) hmap

/-- A line of a uniform map, without window and sprites, has one shade. -/
theorem UniformMap.lineRow_eq {s : State} {idx : Byte} {raw : Shade} (h : UniformMap s idx raw) {ly : Nat}
    (hbg : bit s.lcdc s.cfg.lcdcBgEn = true) (hwin : bit s.lcdc s.cfg.lcdcWinEn = false)
    (hspr : ∀ k : Fin 40, ¬ (sprites s)[k].covers (spriteHeight s) ly) {x : Nat} (hx : x < 160) :
    (lineRow s ly)[x] = shade raw s.bgp := by
  have hhidden : windowVisible s ly = false :=
    Bool.eq_false_of_not_eq_true fun hv => absurd (hwin.symm.trans (windowVisible_iff.mp hv).1) nofun
  rw [lineRow_of_no_sprite hspr, underRow_of_hidden hhidden, bgRow_getElem s ly hx]
  exact (if_pos hbg).trans (h.bgPixel_eq ly x)

/-- The records of a later line cover a line only if those latched at the start or those of OAM do. -/
theorem not_covers_of_recordsFrom {s u : State} {ly : Nat} (hk : KeepsSources s u) (hrec : RecordsFrom s u)
    (hlatched : ∀ k : Fin 40, ¬ (sprites s)[k].covers (spriteHeight s) ly)
    (hscan : ∀ k : Fin 40, ¬ (scanSprite s k).covers (spriteHeight s) ly) (k : Fin 40) :
    ¬ (sprites u)[k].covers (spriteHeight u) ly := by
  have hheight : spriteHeight u = spriteHeight s := by rw [spriteHeight_eq, spriteHeight_eq, hk.lcdc, hk.cfg]
  rw [hheight]
  rcases hrec with hspr | hspr
  · rw [sprites_congr hspr hk.cfg hk.epoch]
    exact hlatched k
  · rw [sprites_scanned hspr, Fin.getElem_fin, Vector.getElem_ofFn]
    exact hscan k

/-- Settles O58: every row of the frame is a line drawn from the sources of the start, and such a line has one shade. -/
theorem uniformMapFillsScreen : Obligations.UniformMapFillsScreen := by
  intro s idx raw _ hon hmode hly hbg hwin hentries hpixels hlatched hscan
  obtain ⟨t, ⟨hrun, -⟩, hdone⟩ := runs_frame hon hmode hly
  refine ⟨t, hrun, fun x y hx hy => ?_⟩
  obtain ⟨u, hk, hrec, hrow⟩ := hdone.rows y hy
  have hfb : fbRow t y = lineRow u y := by rw [fbRow, hrow]; rfl
  have huniform := UniformMap.of_keepsSources ⟨hentries, hpixels⟩ hk
  have hcovers := not_covers_of_recordsFrom hk hrec (fun k => hlatched k y hy) (fun k => hscan k y hy)
  have hline := huniform.lineRow_eq (by rw [hk.lcdc, hk.cfg, hbg]) (by rw [hk.lcdc, hk.cfg, hwin]) hcovers hx
  rw [pixelAt_eq_getElem hx (by omega), hfb, hline, hk.bgp]
  rfl

end Sys2Proof.Machine
end
